-- ==== Sys2Proof/Word.lean ====
section
/-! DEFINITION. The plain number types of the HG-4410: window words, tick values, and the numbers of ports, agents,
locks and barriers (00_scope.md, "Terms"). -/

namespace Sys2Proof

/-- A word of the register window: 16 bits (R163, R164). -/
abbrev Word := BitVec 16

/-- A tick value: the tick counter is 32 bits wide and wraps (R53). -/
abbrev Ticks := BitVec 32

/-- One of the four host ports, P0 to P3. -/
abbrev Port := Fin 4

/-- An agent number, 0 to 7. -/
abbrev Agent := Fin 8

/-- A lock index, 0 to 63. -/
abbrev LockIndex := Fin 64

/-- A barrier number, 0 to 7. -/
abbrev BarrierIndex := Fin 8

/-- A word offset in the window, 00h to 1Fh (R164). -/
abbrev Offset := Fin 32

end Sys2Proof
end

