-- ==== Sys2Proof/Syntax.lean ====
section
/-! DEFINITION. The commands of the block: one constructor per row of spec/opcode_table.json, in the table's order.
A row is one whole event (95_what_each_step_holds.md). A request taken by its owner names the issuing port only:
its arguments are the words the port's command unit captured (R149, R153). A window write names the port and the
word on the bus. An event of the deadline unit or of the sweep engine has no operand: the head of the deadline list
(R61) and the position of the sweep (R132) say what it concerns. -/

namespace Sys2Proof

/-- The commands. -/
inductive Instr where
  /-- R116: the session unit takes port `p`'s ATTACH. -/
  | attach (p : Port)
  /-- R117: the session unit takes port `p`'s DETACH. -/
  | detach (p : Port)
  /-- R118: the session unit takes port `p`'s TOUCH. -/
  | touch (p : Port)
  /-- R119: the session unit takes port `p`'s FORCE_DETACH. -/
  | forceDetach (p : Port)
  /-- R13: the lock table takes port `p`'s ALLOC. -/
  | alloc (p : Port)
  /-- R14, R15: the lock table takes port `p`'s RETIRE. -/
  | retire (p : Port)
  /-- R17: the lock table takes port `p`'s DEFINE_FIXED. -/
  | defineFixed (p : Port)
  /-- R19: the lock table takes port `p`'s QUERY. -/
  | query (p : Port)
  /-- R30 to R36: the lock table takes port `p`'s ACQUIRE. -/
  | acquire (p : Port)
  /-- R45, R46: the lock table takes port `p`'s RELEASE. -/
  | release (p : Port)
  /-- R47, R48: the lock table takes port `p`'s DOWNGRADE. -/
  | downgrade (p : Port)
  /-- R69, R70: the lock table takes port `p`'s RENEW. -/
  | renew (p : Port)
  /-- R49: the lock table takes port `p`'s CANCEL. -/
  | cancel (p : Port)
  /-- R91, R92: the inbox unit takes port `p`'s POST. -/
  | post (p : Port)
  /-- R98: the barrier unit takes port `p`'s JOIN. -/
  | join (p : Port)
  /-- R99: the barrier unit takes port `p`'s LEAVE. -/
  | leave (p : Port)
  /-- R101, R102: the barrier unit takes port `p`'s ARRIVE. -/
  | arrive (p : Port)
  /-- R103: the barrier unit takes port `p`'s WITHDRAW. -/
  | withdraw (p : Port)
  /-- R105: the barrier unit takes port `p`'s BREAK. -/
  | breakBarrier (p : Port)
  /-- R106: the barrier unit takes port `p`'s REARM. -/
  | rearm (p : Port)
  /-- R107: the barrier unit takes port `p`'s BARRIER_QUERY. -/
  | barrierQuery (p : Port)
  /-- R154: the outcome of port `p`'s command comes back to its command unit. -/
  | completion (p : Port)
  /-- R150: port `p` writes `v` to CMD while BUSY is set. -/
  | overrun (p : Port) (v : Word)
  /-- R85: port `p` writes `v` to POP. -/
  | pop (p : Port) (v : Word)
  /-- R129: port `p` writes `v` to DSUM. -/
  | summaryClear (p : Port) (v : Word)
  /-- R161: port `p` writes `v` to ISTAT. -/
  | istatClear (p : Port) (v : Word)
  /-- R160: port `p` writes `v` to IEN. -/
  | ienWrite (p : Port) (v : Word)
  /-- R120: port `p` writes `v` to KALIVE. -/
  | keepaliveIntervalWrite (p : Port) (v : Word)
  /-- R23: port `p` writes `v` to WCAP. -/
  | waiterCapWrite (p : Port) (v : Word)
  /-- R54: port `p` writes `v` to PRESCALE. -/
  | prescaleWrite (p : Port) (v : Word)
  /-- R166: port `p` reads TICKL. -/
  | ticklRead (p : Port)
  /-- R165: port `p` writes `v` to the word at offset `off`. -/
  | registerWrite (p : Port) (off : Offset) (v : Word)
  /-- R125: port `p` writes `v` to PCTL, whose bit 0 is SOFT_RESET. -/
  | softReset (p : Port) (v : Word)
  /-- R125: the pin PRSTn of port `p` goes low. -/
  | portReset (p : Port)
  /-- R147: the pin RESETn goes low. -/
  | deviceReset
  /-- R127: the pin RESETn goes high while SUP[1:0] carries `sup`. -/
  | resetnRelease (sup : Port)
  /-- R53: the cycles of the tick in progress have passed. -/
  | tick
  /-- R62, R63: the deadline unit hands on the wait deadline at the head of its list. -/
  | waitExpiry
  /-- R66, R67: the deadline unit hands on the lease deadline at the head of its list. -/
  | leaseExpiry
  /-- R121: the deadline unit hands on the keepalive deadline at the head of its list. -/
  | keepaliveExpiry
  /-- R136, R137: the sweep's visit to the lock its position names. -/
  | lockVisit
  /-- R108, R139: the sweep's visit to the barrier its position names. -/
  | barrierVisit
  /-- R140: the final step of the sweep. -/
  | finalStep
  /-- R149: port `p` writes `v` to CMD. -/
  | cmdWrite (p : Port) (v : Word)
  /-- R126: the pin PRSTn of port `p` goes high. -/
  | prstnRelease (p : Port)
deriving DecidableEq, Repr

end Sys2Proof
end

