-- ==== Sys2Proof/Decode.lean ====
section
/-! DEFINITION. The words that spell a command. No row of spec/opcode_table.json carries bits: a command is an event at
the block and no instruction word, so no word spells one. (The codes a host writes to CMD are R171's and stand in
Machine/Operands.lean, where the command unit reads them.) -/

namespace Sys2Proof

/-- The command a word spells by the table's bits: none, since no row of the table gives bits. -/
def decodeTableWord (_nbits _w : Nat) : Option Instr := none

end Sys2Proof
end

