-- ==== Sys2Proof/Config.lean ====
section
/-! DEFINITION. The fixed sizes and values the spec states for every HG-4410. The spec leaves no value to an
implementation, so there is no free value here. -/

namespace Sys2Proof.Config

/-- Fixed locks are the indices below this one (R2). -/
abbrev fixedLocks : Nat := 8

/-- Waiter records in the pool (R21). -/
abbrev waiterRecords : Nat := 24

/-- Entries of one inbox, occupied and reserved together (R74, R77). -/
abbrev inboxEntries : Nat := 16

/-- Requesters a member list may hold (R95, R98). -/
abbrev barrierMembers : Nat := 8

/-- The waiter cap after device reset and after port reset (R23). -/
abbrev resetCap : Nat := 6

/-- The PRESCALE word after device reset (R54, R164). -/
abbrev resetPrescale : Word := 100

/-- The word IDENT reads (R164, R165). -/
abbrev ident : Word := 0x4410

/-- The wait limit that means "no limit" (R35). -/
abbrev noLimit : Word := 65535

end Sys2Proof.Config
end

