-- ==== Sys2Proof/Machine/State.lean ====
section
/-! DEFINITION. The state of the HG-4410 as plain data: every piece the chapters give its blocks, the block's reset
values, and the queue of waiting commands. -/

namespace Sys2Proof.Machine

/-- The kind of a lock: which request modes it accepts (R3). -/
inductive Kind where
  | exclusive
  | shared
deriving DecidableEq, Repr

/-- The mode of a request or a hold (00_scope.md, "Mode"). -/
inductive Mode where
  | exclusive
  | shared
deriving DecidableEq, Repr

/-- The state of a lock entry (R1, R2). -/
inductive LockState where
  | free
  | allocated
deriving DecidableEq, Repr

/-- The irregular mark of a lock: how its last hold ended, when it did not end by release (R5). -/
inductive Mark where
  | none
  | abandoned
  | revoked
deriving DecidableEq, Repr

/-- A requester: a port and an agent number of that port (00_scope.md, "Requester"). -/
structure Requester where
  port : Port
  agent : Agent
deriving DecidableEq, Repr

/-- A handle: a lock index and a generation (R7). -/
structure Handle where
  index : LockIndex
  generation : BitVec 10
deriving DecidableEq, Repr

/-- A waiter record in use (R21). Its deadline, where it has one, is the entry of the deadline list that names the lock
and the requester, and stands there only (R21: "the entry itself is kept in the deadline list"). -/
structure WaiterRecord where
  requester : Requester
  lock : LockIndex
  mode : Mode
  ticket : BitVec 8
  reservations : Nat
deriving DecidableEq, Repr

/-- A lock entry (R1). Its lease deadline is the entry of the deadline list that names the lock, and stands there only.
The shared holders are a set: the list holds no requester twice, and its order carries no meaning (log 13). -/
structure LockEntry where
  state : LockState
  kind : Kind
  generation : BitVec 10
  allocator : Option Port
  leasePeriod : Word
  exclusiveHolder : Option Requester
  sharedHolders : List Requester
  mark : Mark
  queue : List WaiterRecord
deriving DecidableEq, Repr

/-- The object a deadline belongs to (R56): a waiter record, named by its lock and requester (no requester has two
records on one lock, R28); the exclusive hold of a lock; a port's keepalive. -/
inductive DeadlineObject where
  | wait (lock : LockIndex) (who : Requester)
  | lease (lock : LockIndex)
  | keepalive (port : Port)
deriving DecidableEq, Repr

/-- An entry of the deadline list (R56). `due` says that the counter has reached the tick since the entry was placed:
R55 keeps an entry due at every later count until it is handed on (DEDUCED, log 5). -/
structure Deadline where
  object : DeadlineObject
  tick : Ticks
  due : Bool
deriving DecidableEq, Repr

/-- The kind of an inbox entry with the fields of its kind (R75). -/
inductive EntryBody where
  | granted (handle : Handle) (mode : Mode) (ticket : BitVec 8) (mark : Mark)
  | waitExpired (handle : Handle) (mode : Mode) (ticket : BitVec 8)
  | leaseRevoked (handle : Handle)
  | note (senderPort : Port) (senderAgent : Agent) (tag : BitVec 8) (data : BitVec 32)
  | barrierOpen (barrier : BarrierIndex) (phase : BitVec 8)
  | barrierBroken (barrier : BarrierIndex) (phase : BitVec 8) (cause : Port)
deriving DecidableEq, Repr

/-- An inbox entry (R75). -/
structure InboxEntry where
  agent : Agent
  body : EntryBody
deriving DecidableEq, Repr

/-- A port's inbox, oldest entry first, and its reservation count (R74, R77). -/
structure Inbox where
  entries : List InboxEntry
  reserved : Nat
deriving DecidableEq, Repr

/-- The state of a barrier (R95). -/
inductive BarrierState where
  | idle
  | gathering
  | broken
deriving DecidableEq, Repr

/-- A barrier entry (R95). The arrived set is a set: its order carries no meaning (log 13). -/
structure Barrier where
  state : BarrierState
  phase : BitVec 8
  members : List Requester
  arrived : List Requester
deriving DecidableEq, Repr

/-- Where a port stands in the cycle of sessions (R112). -/
inductive PortState where
  | detached
  | attached
  | pendingSweep
  | sweeping
deriving DecidableEq, Repr

/-- How a port's most recent session ended (R112). -/
inductive Cause where
  | none
  | detach
  | keepalive
  | portReset
  | forced
deriving DecidableEq, Repr

/-- A port's session record (R112). Bit n of the departure summary is set when port n is in it (R168). -/
structure Session where
  state : PortState
  generation : BitVec 8
  lastCause : Cause
  summary : BitVec 4
  keepalive : Word
deriving DecidableEq, Repr

/-- The commands a host can issue (R171). -/
inductive Command where
  | attach | detach | touch | forceDetach
  | alloc | retire | defineFixed | query | acquire | release | downgrade | renew | cancel
  | post
  | join | leave | arrive | withdraw | breakBarrier | rearm | barrierQuery
deriving DecidableEq, Repr

/-- The result codes (R172). -/
inductive ResultCode where
  | ok | granted | queued | contended | opened
  | badCommand | badArgument | notAttached | wrongState | notSupervisor | departed
  | staleHandle | notAllocated | fixedLock | notOwner | inUse | noFreeLock | wrongKind | alreadyHeld | alreadyWaiting
  | portCap | poolEmpty | inboxFull | notHolder | noLease | noSuchTicket
  | targetDetached | targetFull
  | notMember | alreadyMember | barrierFull | broken | arrived | notArrived
deriving DecidableEq, Repr

/-- The four argument words (R148, R164). -/
structure Args where
  arg0 : Word
  arg1 : Word
  arg2 : Word
  arg3 : Word
deriving DecidableEq, Repr

/-- An owner's outcome: one result code and three result words (R153, R154). -/
structure Answer where
  code : ResultCode
  res0 : Word
  res1 : Word
  res2 : Word
deriving DecidableEq, Repr

/-- How far the command in flight has come (R153 to R157): handed to its owner, which has not taken it yet, with the mark
that its port has departed since the take (R115, R126; DEDUCED, log 7); or taken by the owner, whose outcome is on its
way back. -/
inductive Progress where
  | handed (departed : Bool)
  | answered (answer : Answer)
deriving DecidableEq, Repr

/-- The command in flight: its code and the four captured argument words (R148, R149). -/
structure InFlight where
  command : Command
  args : Args
  progress : Progress
deriving DecidableEq, Repr

/-- A port's command unit (R148). BUSY is set exactly while a command is in flight, so `inFlight` holds both. -/
structure CommandUnit where
  inFlight : Option InFlight
  lastCode : BitVec 8
  rcode : Word
  res0 : Word
  res1 : Word
  res2 : Word
  completion : Bool
  overrun : Bool
deriving DecidableEq, Repr

/-- A port's interface (00_scope.md, "Block overview"): argument words, interrupt enables (R160; bits 0 to 3 are inbox,
summary, completion and overrun, R168), tick snapshot (R166). `busOut` is the word the port last put on D[15:0] for a
read of TICKL (R163; log 8). -/
structure PortInterface where
  args : Args
  enables : BitVec 4
  snapshot : Word
  busOut : Word
deriving DecidableEq, Repr

/-- What the waiter pool keeps for one port: its count of records in use (R22), its ticket counter (R26) and its waiter
cap (R23). -/
structure PoolPort where
  count : Nat
  nextTicket : BitVec 8
  cap : Nat
deriving DecidableEq, Repr

/-- The position of a sweep: the next event it will take (R132). -/
inductive Position where
  | locks (i : LockIndex)
  | barriers (b : BarrierIndex)
  | final
deriving DecidableEq, Repr

/-- The sweep engine (R132). While it is IDLE the sweeping port and the position carry no meaning and are not held
(log 16). -/
inductive Engine where
  | idle
  | busy (port : Port) (position : Position)
deriving DecidableEq, Repr

/-- The state of the HG-4410. -/
structure State where
  /-- The four port interfaces. -/
  interfaces : Vector PortInterface 4
  /-- The four command units (R148). -/
  units : Vector CommandUnit 4
  /-- The lock entries (R1). -/
  locks : Vector LockEntry 64
  /-- The free-lock list, head first (R8). -/
  freeLocks : List LockIndex
  /-- The number of free waiter records (R21, R22). -/
  freeRecords : Nat
  /-- The waiter pool's counts, ticket counters and caps (R22, R23, R26). -/
  poolPorts : Vector PoolPort 4
  /-- The deadline list, head first (R56). -/
  deadlines : List Deadline
  /-- The tick counter (R53). -/
  tick : Ticks
  /-- The PRESCALE word; 0 stands for 65 536 (R54). -/
  prescale : Word
  /-- The length in CLKIN cycles of the tick in progress (R53, R54). -/
  tickLength : Nat
  /-- The CLKIN cycles counted up to the last tick boundary (R53; log 6). -/
  cycleCount : Nat
  /-- The four inboxes (R74, R77). -/
  inboxes : Vector Inbox 4
  /-- The barrier entries (R95). -/
  barriers : Vector Barrier 8
  /-- The session records (R112). -/
  sessions : Vector Session 4
  /-- The supervisor identity (R127). -/
  supervisor : Port
  /-- The sweep engine (R132). -/
  engine : Engine
  /-- The departure queue, oldest first (R133). -/
  departureQueue : List Port
  /-- The pin RESETn is low (R163). -/
  resetLow : Bool
  /-- The pin PRSTn of each port is low (R126). -/
  prstLow : Vector Bool 4
  /-- The commands that are waiting, first in first out (the model's own, log 1). -/
  pending : List Instr
deriving DecidableEq, Repr

/-- The reasons to stop with a fault: none. The spec gives the block no behaviour that stops it (INVENTORY.md, "Faults").
Nothing raises one, so it is neither safe nor unsafe. -/
inductive Fault where
deriving DecidableEq, Repr

/-- The reasons to refuse. -/
inductive Refusal where
  /-- A command the model gives no meaning; raised only by an arm of `exec` that is rejected by name. There is none.
  Safe. -/
  | notModelled (mnemonic : String)
deriving DecidableEq, Repr

/-- A port interface after device reset (R148, R160, R164, R166). -/
def PortInterface.atReset : PortInterface := ⟨⟨0, 0, 0, 0⟩, 0, 0, 0⟩

/-- A command unit after device reset (R148). -/
def CommandUnit.atReset : CommandUnit := ⟨none, 0, 0, 0, 0, 0, false, false⟩

/-- A lock entry after device reset, in the state given (R10). -/
def LockEntry.atReset (st : LockState) : LockEntry := ⟨st, .exclusive, 0, none, 0, none, [], .none, []⟩

/-- The waiter pool's record of a port after device reset (R22, R23, R26). -/
def PoolPort.atReset : PoolPort := ⟨0, 0, Config.resetCap⟩

/-- A session record after device reset (R113). -/
def Session.atReset : Session := ⟨.detached, 0, .none, 0, 0⟩

/-- The part right after device reset (R10, R21 to R23, R26, R54, R60, R74, R77, R95, R113, R132, R147, R148): every
state at its device-reset value, RESETn still low as R163 has it, PRSTn high at every port, and no command waiting.
DESIGN CHOICE: the supervisor identity, which is sampled at the release of RESETn, is P0 until then (log 2); the length of
a tick while none is in progress is 100 (log 6); `busOut` is 0 (log 8); the PRSTn pins are high (log 12). -/
def State.reset : State where
  interfaces := Vector.replicate 4 .atReset
  units := Vector.replicate 4 .atReset
  locks := Vector.ofFn fun i => .atReset (if i.val < Config.fixedLocks then .allocated else .free)
  freeLocks := (List.finRange 64).drop Config.fixedLocks
  freeRecords := Config.waiterRecords
  poolPorts := Vector.replicate 4 .atReset
  deadlines := []
  tick := 0
  prescale := Config.resetPrescale
  tickLength := 100
  cycleCount := 0
  inboxes := Vector.replicate 4 ⟨[], 0⟩
  barriers := Vector.replicate 8 ⟨.idle, 0, [], []⟩
  sessions := Vector.replicate 4 .atReset
  supervisor := 0
  engine := .idle
  departureQueue := []
  resetLow := true
  prstLow := Vector.replicate 4 false
  pending := []

end Sys2Proof.Machine
end

