-- ==== Sys2Proof/Machine/Operands.lean ====
section
/-! DEFINITION. The layouts software sees (R168 to R173): the handle word, the field codes, the command codes, the
argument words with their range checks, the result words and the inbox head words. -/

namespace Sys2Proof.Machine

/-- The value of the `len` bits of `w` from bit `lo` up. -/
def bitsOf (w : Word) (lo len : Nat) : Nat := (w.extractLsb' lo len).toNat

/-- The word with `v`, cut to `len` bits, in the bits from `lo` up, and 0 elsewhere. -/
def fieldAt (v lo len : Nat) : Word := BitVec.ofNat 16 ((v % 2 ^ len) <<< lo)

/-- A flag as a number. -/
def bitNat (b : Bool) : Nat := if b then 1 else 0

/-! ### Handles and field codes (R169) -/

/-- R169: the index stands in bits 15:10, the generation in bits 9:0. -/
def Handle.toWord (h : Handle) : Word := fieldAt h.index.val 10 6 ||| fieldAt h.generation.toNat 0 10

/-- R169: every 16-bit value is a handle within range. -/
def Handle.ofWord (w : Word) : Handle := ⟨Fin.ofNat 64 (bitsOf w 10 6), w.extractLsb' 0 10⟩

/-- R169: kind codes. -/
def Kind.code : Kind → Nat
  | .exclusive => 1
  | .shared => 2

/-- R169: mode codes. -/
def Mode.code : Mode → Nat
  | .exclusive => 1
  | .shared => 2

/-- R169: mark codes. -/
def Mark.code : Mark → Nat
  | .none => 0
  | .abandoned => 1
  | .revoked => 2

/-- R169: port state codes. -/
def PortState.code : PortState → Nat
  | .detached => 0
  | .attached => 1
  | .pendingSweep => 2
  | .sweeping => 3

/-- R169: cause codes. -/
def Cause.code : Cause → Nat
  | .none => 0
  | .detach => 1
  | .keepalive => 2
  | .portReset => 3
  | .forced => 4

/-- R169: barrier state codes. -/
def BarrierState.code : BarrierState → Nat
  | .idle => 0
  | .gathering => 1
  | .broken => 2

/-- R169: the allocator field, 4 for NONE. -/
def allocatorCode : Option Port → Nat
  | some p => p.val
  | none => 4

/-- R169: 1 and 2 name a kind and a mode; 0 and 3 are unknown. -/
def codeNamesKind (n : Nat) : Bool := n == 1 || n == 2

/-- The kind a code names (R169). An unknown code never reaches an owner, since the common checks refuse it (R152). -/
def kindOfCode (n : Nat) : Kind := if n = 2 then .shared else .exclusive

/-- The mode a code names (R169). An unknown code never reaches an owner, since the common checks refuse it (R152). -/
def modeOfCode (n : Nat) : Mode := if n = 2 then .shared else .exclusive

/-! ### Command codes (R171) -/

/-- R171: the code of each command. -/
def Command.code : Command → BitVec 8
  | .attach => 0x01
  | .detach => 0x02
  | .touch => 0x03
  | .forceDetach => 0x04
  | .alloc => 0x10
  | .retire => 0x11
  | .defineFixed => 0x12
  | .query => 0x13
  | .acquire => 0x14
  | .release => 0x15
  | .downgrade => 0x16
  | .renew => 0x17
  | .cancel => 0x18
  | .post => 0x20
  | .join => 0x30
  | .leave => 0x31
  | .arrive => 0x32
  | .withdraw => 0x33
  | .breakBarrier => 0x34
  | .rearm => 0x35
  | .barrierQuery => 0x36

/-- The commands of R171's table, in its order. -/
def Command.all : List Command :=
  [.attach, .detach, .touch, .forceDetach, .alloc, .retire, .defineFixed, .query, .acquire, .release, .downgrade, .renew,
    .cancel, .post, .join, .leave, .arrive, .withdraw, .breakBarrier, .rearm, .barrierQuery]

/-- R170: the command a code names; a code not in the table names none. -/
def Command.ofCode (c : BitVec 8) : Option Command := Command.all.find? fun k => k.code == c

/-- R152, R128: the two commands that are the supervisor's alone. -/
def Command.supervisorOnly : Command → Bool
  | .forceDetach | .defineFixed => true
  | _ => false

/-! ### Argument words (R171) -/

/-- The handle in ARG0. -/
def Args.handle (a : Args) : Handle := .ofWord a.arg0

/-- The agent of a lock command, ARG1 bits 3:0. -/
def Args.lockAgent (a : Args) : Agent := Fin.ofNat 8 (bitsOf a.arg1 0 4)

/-- The mode of an ACQUIRE, ARG1 bits 5:4. -/
def Args.mode (a : Args) : Mode := modeOfCode (bitsOf a.arg1 4 2)

/-- The wait limit of an ACQUIRE, ARG2. -/
def Args.waitLimit (a : Args) : Word := a.arg2

/-- The kind of an ALLOC, ARG0 bits 1:0. -/
def Args.allocKind (a : Args) : Kind := kindOfCode (bitsOf a.arg0 0 2)

/-- The lease period of an ALLOC or a DEFINE_FIXED, ARG1. -/
def Args.lease (a : Args) : Word := a.arg1

/-- The index of a DEFINE_FIXED, ARG0 bits 5:0. -/
def Args.fixedIndex (a : Args) : LockIndex := Fin.ofNat 64 (bitsOf a.arg0 0 6)

/-- The kind of a DEFINE_FIXED, ARG0 bits 9:8. -/
def Args.fixedKind (a : Args) : Kind := kindOfCode (bitsOf a.arg0 8 2)

/-- The ticket of a CANCEL, ARG0 bits 7:0. -/
def Args.ticket (a : Args) : BitVec 8 := a.arg0.extractLsb' 0 8

/-- The target port of a FORCE_DETACH or a POST, ARG0 bits 3:0. -/
def Args.target (a : Args) : Port := Fin.ofNat 4 (bitsOf a.arg0 0 4)

/-- The target agent of a POST, ARG0 bits 7:4. -/
def Args.targetAgent (a : Args) : Agent := Fin.ofNat 8 (bitsOf a.arg0 4 4)

/-- The sender agent of a POST, ARG0 bits 11:8. -/
def Args.senderAgent (a : Args) : Agent := Fin.ofNat 8 (bitsOf a.arg0 8 4)

/-- The tag of a POST, ARG1 bits 7:0. -/
def Args.tag (a : Args) : BitVec 8 := a.arg1.extractLsb' 0 8

/-- The data of a POST: ARG2 carries bits 15:0, ARG3 bits 31:16. -/
def Args.data (a : Args) : BitVec 32 := a.arg3 ++ a.arg2

/-- The barrier of a barrier command, ARG0 bits 3:0. -/
def Args.barrier (a : Args) : BarrierIndex := Fin.ofNat 8 (bitsOf a.arg0 0 4)

/-- The agent of a barrier command, ARG0 bits 7:4. -/
def Args.barrierAgent (a : Args) : Agent := Fin.ofNat 8 (bitsOf a.arg0 4 4)

/-- The bits of `w` from `lo` up are reserved and 0. -/
def zeroFrom (w : Word) (lo : Nat) : Bool := bitsOf w lo (16 - lo) == 0

/-- Common check 4 (R152) over the layout of R171: every argument in range and every reserved bit of a word the command
uses 0. The words a command leaves unused are ignored, whatever they hold. -/
def argsInRange (c : Command) (a : Args) : Bool :=
  match c with
  | .attach | .detach | .touch => true
  | .forceDetach => decide (bitsOf a.arg0 0 4 < 4) && zeroFrom a.arg0 4
  | .alloc => codeNamesKind (bitsOf a.arg0 0 2) && zeroFrom a.arg0 2
  | .retire | .query => true
  | .defineFixed =>
    decide (bitsOf a.arg0 0 6 < 8) && codeNamesKind (bitsOf a.arg0 8 2) && bitsOf a.arg0 6 2 == 0 && zeroFrom a.arg0 10
  | .acquire => decide (bitsOf a.arg1 0 4 < 8) && codeNamesKind (bitsOf a.arg1 4 2) && zeroFrom a.arg1 6
  | .release | .downgrade | .renew => decide (bitsOf a.arg1 0 4 < 8) && zeroFrom a.arg1 4
  | .cancel => zeroFrom a.arg0 8
  | .post =>
    decide (bitsOf a.arg0 0 4 < 4) && decide (bitsOf a.arg0 4 4 < 8) && decide (bitsOf a.arg0 8 4 < 8)
      && zeroFrom a.arg0 12 && zeroFrom a.arg1 8
  | .join | .leave | .arrive | .withdraw | .breakBarrier | .rearm | .barrierQuery =>
    decide (bitsOf a.arg0 0 4 < 8) && decide (bitsOf a.arg0 4 4 < 8) && zeroFrom a.arg0 8

/-! ### Result codes and result words (R172) -/

/-- R172: the value of each result code. -/
def ResultCode.toWord : ResultCode → Word
  | .ok => 0x00
  | .granted => 0x01
  | .queued => 0x02
  | .contended => 0x03
  | .opened => 0x04
  | .badCommand => 0x10
  | .badArgument => 0x11
  | .notAttached => 0x12
  | .wrongState => 0x13
  | .notSupervisor => 0x14
  | .departed => 0x15
  | .staleHandle => 0x20
  | .notAllocated => 0x21
  | .fixedLock => 0x22
  | .notOwner => 0x23
  | .inUse => 0x24
  | .noFreeLock => 0x25
  | .wrongKind => 0x26
  | .alreadyHeld => 0x27
  | .alreadyWaiting => 0x28
  | .portCap => 0x29
  | .poolEmpty => 0x2A
  | .inboxFull => 0x2B
  | .notHolder => 0x2C
  | .noLease => 0x2D
  | .noSuchTicket => 0x2E
  | .targetDetached => 0x30
  | .targetFull => 0x31
  | .notMember => 0x40
  | .alreadyMember => 0x41
  | .barrierFull => 0x42
  | .broken => 0x43
  | .arrived => 0x44
  | .notArrived => 0x45

/-- R154: an outcome with no data, a refusal among them: the code and three zero words. -/
def Answer.bare (c : ResultCode) : Answer := ⟨c, 0, 0, 0⟩

/-- ALLOC OK and DEFINE_FIXED OK (R172). -/
def answerHandle (h : Handle) : Answer := ⟨.ok, h.toWord, 0, 0⟩

/-- The holder form bit of a QUERY record and its holder field (R172). -/
def holderReport (e : LockEntry) : Word :=
  match e.exclusiveHolder with
  | some r => fieldAt 1 8 1 ||| fieldAt r.agent.val 9 3 ||| fieldAt r.port.val 12 2
  | none => fieldAt e.sharedHolders.length 9 6

/-- QUERY OK (R19, R172). -/
def answerQuery (e : LockEntry) : Answer :=
  ⟨.ok,
    fieldAt e.generation.toNat 0 10 ||| fieldAt e.mark.code 10 2 ||| fieldAt e.kind.code 12 2
      ||| fieldAt (bitNat (e.state == .allocated)) 14 1,
    e.leasePeriod,
    fieldAt e.queue.length 0 5 ||| fieldAt (allocatorCode e.allocator) 5 3 ||| holderReport e⟩

/-- ACQUIRE GRANTED (R32, R172). -/
def answerGranted (h : Handle) (m : Mode) (k : Mark) : Answer :=
  ⟨.granted, h.toWord, fieldAt m.code 0 2 ||| fieldAt k.code 2 2, 0⟩

/-- ACQUIRE QUEUED (R35, R172). -/
def answerQueued (ticket : BitVec 8) : Answer := ⟨.queued, ticket.setWidth 16, 0, 0⟩

/-- RENEW OK (R70, R172). -/
def answerRenew (h : Handle) (t : Ticks) : Answer := ⟨.ok, h.toWord, t.extractLsb' 0 16, t.extractLsb' 16 16⟩

/-- CANCEL OK (R49, R172). -/
def answerCancel (h : Handle) (a : Agent) (m : Mode) : Answer :=
  ⟨.ok, h.toWord, fieldAt a.val 0 4 ||| fieldAt m.code 4 2, 0⟩

/-- POST, ATTACH, DETACH, TOUCH and FORCE_DETACH OK (R172). -/
def answerGeneration (g : BitVec 8) : Answer := ⟨.ok, g.setWidth 16, 0, 0⟩

/-- JOIN OK (R98, R172). -/
def answerJoin (b : Barrier) : Answer := ⟨.ok, fieldAt b.phase.toNat 0 8 ||| fieldAt b.state.code 8 2, 0, 0⟩

/-- BARRIER_QUERY OK (R107, R172). -/
def answerBarrierQuery (b : Barrier) : Answer :=
  ⟨.ok, fieldAt b.phase.toNat 0 8 ||| fieldAt b.state.code 8 2,
    fieldAt b.members.length 0 4 ||| fieldAt b.arrived.length 4 4, 0⟩

/-- LEAVE OK (R99, R172). -/
def answerLeave (phase : BitVec 8) (opened : Bool) : Answer :=
  ⟨.ok, fieldAt phase.toNat 0 8 ||| fieldAt (bitNat opened) 8 1, 0, 0⟩

/-- ARRIVE QUEUED or OPENED, WITHDRAW, BREAK and REARM OK (R172). -/
def answerPhase (c : ResultCode) (phase : BitVec 8) : Answer := ⟨c, phase.setWidth 16, 0, 0⟩

/-! ### Inbox head words (R173) -/

/-- R169: the code of an entry's kind. -/
def EntryBody.code : EntryBody → Nat
  | .granted .. => 1
  | .waitExpired .. => 2
  | .leaseRevoked .. => 3
  | .note .. => 4
  | .barrierOpen .. => 5
  | .barrierBroken .. => 6

/-- HEAD2 (R173). -/
def EntryBody.head2 : EntryBody → Word
  | .granted h _ _ _ => h.toWord
  | .waitExpired h _ _ => h.toWord
  | .leaseRevoked h => h.toWord
  | .note sp sa tag _ => fieldAt sp.val 0 2 ||| fieldAt sa.val 4 3 ||| fieldAt tag.toNat 8 8
  | .barrierOpen b _ => fieldAt b.val 0 3
  | .barrierBroken b _ _ => fieldAt b.val 0 3

/-- HEAD3 (R173). -/
def EntryBody.head3 : EntryBody → Word
  | .granted _ m t k => fieldAt t.toNat 0 8 ||| fieldAt m.code 8 2 ||| fieldAt k.code 10 2
  | .waitExpired _ m t => fieldAt t.toNat 0 8 ||| fieldAt m.code 8 2
  | .leaseRevoked _ => 0
  | .note _ _ _ d => d.extractLsb' 0 16
  | .barrierOpen _ ph => ph.setWidth 16
  | .barrierBroken _ ph _ => ph.setWidth 16

/-- HEAD4 (R173). -/
def EntryBody.head4 : EntryBody → Word
  | .note _ _ _ d => d.extractLsb' 16 16
  | .barrierBroken _ _ c => fieldAt c.val 0 2
  | .granted .. | .waitExpired .. | .leaseRevoked .. | .barrierOpen .. => 0

/-- HEAD0 to HEAD4 (R84, R173): the entry at the head, or all 0 (kind NONE) while the inbox is empty. -/
def headWord (entries : List InboxEntry) (n : Nat) : Word :=
  match entries with
  | [] => 0
  | e :: _ =>
    match n with
    | 0 => fieldAt e.body.code 0 4
    | 1 => fieldAt e.agent.val 0 3
    | 2 => e.body.head2
    | 3 => e.body.head3
    | _ => e.body.head4

end Sys2Proof.Machine
end

