-- ==== Sys2Proof/Machine/Ops.lean ====
section
/-! DEFINITION. The shared operations: reading and writing the parts of the state, the deadline list, the inboxes and
their reservations, the waiter pool, the command units, keepalive renewal, departure, and grant evaluation. -/

namespace Sys2Proof.Machine

/-! ### The parts of the state -/

/-- The interface of port `p`. -/
def State.interface (s : State) (p : Port) : PortInterface := s.interfaces[p]

/-- The command unit of port `p`. -/
def State.unit (s : State) (p : Port) : CommandUnit := s.units[p]

/-- Lock entry `i`. -/
def State.lock (s : State) (i : LockIndex) : LockEntry := s.locks[i]

/-- The waiter pool's record of port `p`. -/
def State.pool (s : State) (p : Port) : PoolPort := s.poolPorts[p]

/-- The inbox of port `p`. -/
def State.inbox (s : State) (p : Port) : Inbox := s.inboxes[p]

/-- Barrier entry `b`. -/
def State.barrier (s : State) (b : BarrierIndex) : Barrier := s.barriers[b]

/-- The session record of port `p`. -/
def State.session (s : State) (p : Port) : Session := s.sessions[p]

/-- The pin PRSTn of port `p` is low. -/
def State.held (s : State) (p : Port) : Bool := s.prstLow[p]

/-- `s` with the interface of port `p` replaced. -/
def State.setInterface (s : State) (p : Port) (x : PortInterface) : State :=
  { s with interfaces := s.interfaces.set p x }

/-- `s` with the command unit of port `p` replaced. -/
def State.setUnit (s : State) (p : Port) (x : CommandUnit) : State := { s with units := s.units.set p x }

/-- `s` with lock entry `i` replaced. -/
def State.setLock (s : State) (i : LockIndex) (x : LockEntry) : State := { s with locks := s.locks.set i x }

/-- `s` with the waiter pool's record of port `p` replaced. -/
def State.setPool (s : State) (p : Port) (x : PoolPort) : State := { s with poolPorts := s.poolPorts.set p x }

/-- `s` with the inbox of port `p` replaced. -/
def State.setInbox (s : State) (p : Port) (x : Inbox) : State := { s with inboxes := s.inboxes.set p x }

/-- `s` with barrier entry `b` replaced. -/
def State.setBarrier (s : State) (b : BarrierIndex) (x : Barrier) : State := { s with barriers := s.barriers.set b x }

/-- `s` with the session record of port `p` replaced. -/
def State.setSession (s : State) (p : Port) (x : Session) : State := { s with sessions := s.sessions.set p x }

/-- `s` with the pin PRSTn of port `p` at the level given. -/
def State.setHeld (s : State) (p : Port) (low : Bool) : State := { s with prstLow := s.prstLow.set p low }

/-- Port `p` is ATTACHED (R112). -/
def State.attached (s : State) (p : Port) : Bool := (s.session p).state == .attached

/-- The ports, in order. -/
def ports : List Port := [0, 1, 2, 3]

/-! ### Deadlines (R55 to R59) -/

/-- The tick `n` ticks after now, modulo 4 294 967 296 (R55). -/
def State.after (s : State) (n : Word) : Ticks := s.tick + n.setWidth 32

/-- The forward distance of tick `t` from the count `now` (R55). -/
def forwardDistance (now t : Ticks) : Nat := (t - now).toNat

/-- R57: the new entry stands after every entry that is due (R56) or whose expiry tick is nearer than or equal to its own,
and before every entry whose tick is farther. -/
def placeDeadline (now : Ticks) (d : Deadline) : List Deadline → List Deadline
  | [] => [d]
  | x :: xs =>
    if x.due || decide (forwardDistance now x.tick ≤ forwardDistance now d.tick) then x :: placeDeadline now d xs
    else d :: x :: xs

/-- Insert a deadline for object `o` at tick `t` (R57). -/
def State.insertDeadline (s : State) (o : DeadlineObject) (t : Ticks) : State :=
  { s with deadlines := placeDeadline s.tick ⟨o, t, false⟩ s.deadlines }

/-- Take object `o`'s entry out of the list; the others keep their order. No entry, no change (R58). -/
def State.removeDeadline (s : State) (o : DeadlineObject) : State :=
  { s with deadlines := s.deadlines.filter fun d => d.object != o }

/-- Move object `o`'s entry to tick `t`, behind every entry of equal tick (R59). -/
def State.moveDeadline (s : State) (o : DeadlineObject) (t : Ticks) : State :=
  (s.removeDeadline o).insertDeadline o t

/-- R61: the entry at the head of the list, if it is due. -/
def State.dueHead (s : State) : Option DeadlineObject :=
  match s.deadlines with
  | [] => none
  | d :: _ => if d.due then some d.object else none

/-- R61: the head entry has left the list. -/
def State.dropHeadDeadline (s : State) : State := { s with deadlines := s.deadlines.tail }

/-! ### Inboxes and reservations (R74 to R81) -/

/-- R77: 16 minus the occupied count minus the reservation count. -/
def Inbox.freeRoom (b : Inbox) : Nat := Config.inboxEntries - b.entries.length - b.reserved

/-- Port `p`'s free room (R77). -/
def State.freeRoom (s : State) (p : Port) : Nat := (s.inbox p).freeRoom

/-- Reserve `n` entries in port `p`'s inbox (R78). -/
def State.reserve (s : State) (p : Port) (n : Nat) : State :=
  s.setInbox p { s.inbox p with reserved := (s.inbox p).reserved + n }

/-- Drop `n` of port `p`'s reservations (R80). -/
def State.dropReservations (s : State) (p : Port) (n : Nat) : State :=
  s.setInbox p { s.inbox p with reserved := (s.inbox p).reserved - n }

/-- Append an entry at the tail of port `p`'s inbox (R76). -/
def State.deliver (s : State) (p : Port) (e : InboxEntry) : State :=
  s.setInbox p { s.inbox p with entries := (s.inbox p).entries ++ [e] }

/-- A reserved delivery: the reservation becomes the entry if port `p` is ATTACHED (R79); otherwise the entry is discarded
and the reservation dropped (R81). -/
def State.deliverReserved (s : State) (p : Port) (e : InboxEntry) : State :=
  if s.attached p then (s.dropReservations p 1).deliver p e else s.dropReservations p 1

/-- The flush at a departure: every entry goes, the reservation count stays (R87). -/
def State.flush (s : State) (p : Port) : State := s.setInbox p { s.inbox p with entries := [] }

/-! ### Locks, holders and waiter records (R4, R21 to R31) -/

/-- The present handle of lock `i`: its index and its present generation. -/
def State.handleOf (s : State) (i : LockIndex) : Handle := ⟨i, (s.lock i).generation⟩

/-- R7: what handle validation refuses a handle with, if it does. -/
def State.validateHandle (s : State) (h : Handle) : Option ResultCode :=
  if h.generation ≠ (s.lock h.index).generation then some .staleHandle
  else if (s.lock h.index).state = .free then some .notAllocated
  else none

/-- The lock has no holder of either mode. -/
def LockEntry.noHolder (e : LockEntry) : Bool := e.exclusiveHolder.isNone && e.sharedHolders.isEmpty

/-- The requester holds the lock, in either mode. -/
def LockEntry.heldBy (e : LockEntry) (r : Requester) : Bool :=
  e.exclusiveHolder == some r || e.sharedHolders.contains r

/-- The requester has a waiter record in the lock's queue. -/
def LockEntry.waitedBy (e : LockEntry) (r : Requester) : Bool := e.queue.any fun w => w.requester == r

/-- R31: a request of mode `m` is compatible with the present holders. -/
def LockEntry.compatible (e : LockEntry) (m : Mode) : Bool :=
  match m with
  | .exclusive => e.noHolder
  | .shared => e.exclusiveHolder.isNone

/-- A grant of mode `m` of this lock takes a lease (R32, R34, R42): the mode is EXCLUSIVE and the lease period is not 0. -/
def LockEntry.leased (e : LockEntry) (m : Mode) : Bool := m == .exclusive && e.leasePeriod != 0

/-- The lock has a holder or a waiter (R14, R17). -/
def LockEntry.inUse (e : LockEntry) : Bool := !e.noHolder || !e.queue.isEmpty

/-- A set of requesters with one more member (R4). -/
def insertRequester (r : Requester) (l : List Requester) : List Requester := if l.contains r then l else l ++ [r]

/-- R32, R41: the requester becomes the exclusive holder or one of the shared holders, and the mark is cleared (R43). -/
def LockEntry.grantTo (e : LockEntry) (r : Requester) (m : Mode) : LockEntry :=
  match m with
  | .exclusive => { e with exclusiveHolder := some r, mark := .none }
  | .shared => { e with sharedHolders := insertRequester r e.sharedHolders, mark := .none }

/-- Insert the lease deadline of lock `i`, one lease period after now (R55, R65). -/
def State.startLease (s : State) (i : LockIndex) : State :=
  s.insertDeadline (.lease i) (s.after (s.lock i).leasePeriod)

/-- Where lock `i` has a lease period, remove its lease deadline and drop the lease reservation of port `p` (R65). -/
def State.endLease (s : State) (i : LockIndex) (p : Port) : State :=
  if (s.lock i).leasePeriod = 0 then s else (s.removeDeadline (.lease i)).dropReservations p 1

/-- The tickets of port `p`'s records in use, over all queues (R26). -/
def State.liveTickets (s : State) (p : Port) : List (BitVec 8) :=
  (List.finRange 64).flatMap fun i => ((s.lock i).queue.filter fun w => w.requester.port == p).map (·.ticket)

/-- R26: step forward from `t` past the values in use. With at most `n` of them, `n` steps reach a free value. -/
def firstFreeTicket (used : List (BitVec 8)) : Nat → BitVec 8 → BitVec 8
  | 0, t => t
  | n + 1, t => if used.contains t then firstFreeTicket used n (t + 1) else t

/-- R26: the ticket the pool gives the next record of port `p`. -/
def State.nextTicket (s : State) (p : Port) : BitVec 8 :=
  firstFreeTicket (s.liveTickets p) Config.waiterRecords (s.pool p).nextTicket

/-- R24: the pool's refusal of a record for port `p`, if it refuses. -/
def State.recordRefusal (s : State) (p : Port) : Option ResultCode :=
  if (s.pool p).cap ≤ (s.pool p).count then some .portCap
  else if s.freeRecords = 0 then some .poolEmpty
  else none

/-- R35: the record is taken, filled and appended at the tail of its lock's queue, and the port's count and ticket counter
move on (R24, R26). -/
def State.enqueue (s : State) (w : WaiterRecord) : State :=
  let e := s.lock w.lock
  let k := s.pool w.requester.port
  { (s.setLock w.lock { e with queue := e.queue ++ [w] }).setPool w.requester.port
      { k with count := k.count + 1, nextTicket := w.ticket + 1 } with
    freeRecords := s.freeRecords - 1 }

/-- R25: record `w` leaves the queue of lock `i`, its wait deadline, if any, is removed, the record becomes free and its
port's count falls by one. Its reservations are for the caller to convert or drop. -/
def State.freeRecord (s : State) (i : LockIndex) (w : WaiterRecord) : State :=
  let e := s.lock i
  let k := s.pool w.requester.port
  { ((s.setLock i { e with queue := e.queue.erase w }).setPool w.requester.port { k with count := k.count - 1 }).removeDeadline
      (.wait i w.requester) with
    freeRecords := s.freeRecords + 1 }

/-- R40, R49, R63: record `w` is freed and all of its reservations are dropped. -/
def State.discardRecord (s : State) (i : LockIndex) (w : WaiterRecord) : State :=
  (s.freeRecord i w).dropReservations w.requester.port w.reservations

/-! ### Grant evaluation (R38 to R43) -/

/-- R41 to R43: grant record `w`, the head of lock `i`'s queue. Its requester becomes a holder, the record is freed, one
reservation becomes the GRANTED entry with the mark as it stood, and the mark is cleared. A second reservation becomes the
lease reservation of a leased exclusive hold, whose deadline is inserted; no other grant leaves a reservation behind. -/
def State.grantHead (s : State) (i : LockIndex) (w : WaiterRecord) : State :=
  let e := s.lock i
  let s := s.freeRecord i w
  let s := s.setLock i ((s.lock i).grantTo w.requester w.mode)
  let s := s.deliverReserved w.requester.port
    ⟨w.requester.agent, .granted ⟨i, e.generation⟩ w.mode w.ticket e.mark⟩
  if e.leased w.mode then s.startLease i else s.dropReservations w.requester.port (w.reservations - 1)

/-- R39: the steps of grant evaluation at lock `i`, at most `n` of them. Every step that goes on takes one record off the
queue. -/
def State.evaluateSteps (i : LockIndex) : Nat → State → State
  | 0, s => s
  | n + 1, s =>
    match (s.lock i).queue with
    | [] => s
    | w :: _ =>
      if s.attached w.requester.port = false then State.evaluateSteps i n (s.discardRecord i w)
      else if (s.lock i).compatible w.mode then State.evaluateSteps i n (s.grantHead i w)
      else s

/-- R38, R39: grant evaluation at lock `i`. -/
def State.evaluate (s : State) (i : LockIndex) : State := s.evaluateSteps i (s.lock i).queue.length

/-! ### Keepalive and departure (R72, R122) -/

/-- R72, R149: renew port `p`'s keepalive, if the port is ATTACHED and its interval is not 0. -/
def State.renewKeepalive (s : State) (p : Port) : State :=
  if s.attached p && (s.session p).keepalive != 0 then
    s.moveDeadline (.keepalive p) (s.after (s.session p).keepalive)
  else s

/-- R115, R126: the port of the command in flight has departed before the command's owner took it. -/
def CommandUnit.markDeparted (u : CommandUnit) : CommandUnit :=
  match u.inFlight with
  | some ⟨c, a, .handed _⟩ => { u with inFlight := some ⟨c, a, .handed true⟩ }
  | _ => u

/-- R122 step 4, R134: port `p` is handed to the sweep engine. -/
def State.handToSweep (s : State) (p : Port) : State :=
  match s.engine with
  | .idle =>
    { s.setSession p { s.session p with state := .sweeping } with engine := .busy p (.locks 0) }
  | .busy _ _ =>
    { s.setSession p { s.session p with state := .pendingSweep } with departureQueue := s.departureQueue ++ [p] }

/-- R122: the departure of port `p` with cause `c`. -/
def State.depart (s : State) (p : Port) (c : Cause) : State :=
  let s := s.setSession p { s.session p with lastCause := c }
  let s := s.removeDeadline (.keepalive p)
  let s := s.flush p
  let s := s.setUnit p (s.unit p).markDeparted
  s.handToSweep p

/-! ### Command units (R148 to R158) -/

/-- R148: BUSY is set while a command is in flight. -/
def CommandUnit.busy (u : CommandUnit) : Bool := u.inFlight.isSome

/-- R154: the completion: the outcome is written, BUSY is cleared and the completion flag is set. -/
def CommandUnit.complete (u : CommandUnit) (a : Answer) : CommandUnit :=
  { u with
    inFlight := none
    rcode := a.code.toWord
    res0 := a.res0
    res1 := a.res1
    res2 := a.res2
    completion := true }

/-- R152: the common checks on a command of port `p` with code `code` and the captured arguments `args`: the command, or
the first refusal. -/
def State.commonChecks (s : State) (p : Port) (code : BitVec 8) (args : Args) : Except ResultCode Command :=
  match Command.ofCode code with
  | none => .error .badCommand
  | some c =>
    if c ≠ .attach ∧ s.attached p = false then .error .notAttached
    else if c.supervisorOnly = true ∧ p ≠ s.supervisor then .error .notSupervisor
    else if argsInRange c args = false then .error .badArgument
    else .ok c

/-- R149, R170: port `p`'s command unit takes the word `v` written to CMD. -/
def State.takeCommand (s : State) (p : Port) (v : Word) : State :=
  let args := (s.interface p).args
  let code := v.extractLsb' 0 8
  let u := { s.unit p with lastCode := code, completion := false }
  match s.commonChecks p code args with
  | .ok c => (s.renewKeepalive p).setUnit p { u with inFlight := some ⟨c, args, .handed false⟩ }
  | .error r => (s.renewKeepalive p).setUnit p (u.complete (.bare r))

/-- The owner's outcome is on its way back to port `p`'s command unit (R153). -/
def State.answer (s : State) (p : Port) (a : Answer) : State :=
  s.setUnit p { s.unit p with
    inFlight := (s.unit p).inFlight.map fun f => { f with progress := .answered a } }

/-- The owner takes port `p`'s request for command `c` (R153). A request whose port has departed since the take is refused
before any other check and completes DEPARTED (R36, R91, R94, R115); an ATTACH taken while its port was not ATTACHED has no
departure to meet. Where no such request is at the owner, nothing is taken: a request abandoned by a port reset is withdrawn
or refused with no effect and no result (R126, R158; log 4, log 7). The deliveries the owner's event makes to inboxes are made
here, before the COMPLETION that posts its answer can be taken; R44 and R154 give the two no order (DESIGN CHOICE, log 19). -/
def State.serve (s : State) (p : Port) (c : Command) (owner : Port → Args → State → State × Answer) : State :=
  match (s.unit p).inFlight with
  | some ⟨c', args, .handed departed⟩ =>
    if c' ≠ c then s
    else if departed = true ∨ (c ≠ .attach ∧ s.attached p = false) then s.answer p (.bare .departed)
    else (owner p args s).1.answer p (owner p args s).2
  | _ => s

/-! ### Window writes (R163, R165, R126) -/

/-- A write of port `p` is taken: neither RESETn nor the port's PRSTn is low (R126, R163). -/
def State.takesBus (s : State) (p : Port) : Bool := !s.resetLow && !s.held p

/-- A write of port `p` with the effect `f`, ignored while RESETn or the port's PRSTn is low (R126, R163). -/
def State.onWrite (s : State) (p : Port) (f : State → State) : State := if s.takesBus p then f s else s

end Sys2Proof.Machine
end

