-- ==== Sys2Proof/Machine/Acquisition.lean ====
section
/-! DEFINITION. The lock table's commands on holds and waits (chapters 2 and 3): ACQUIRE, RELEASE, DOWNGRADE, CANCEL and
RENEW. -/

namespace Sys2Proof.Machine

/-- R30: what ACQUIRE of handle `h` in mode `m` by requester `r` is refused with by the four checks, if it is. -/
def acquireRefusal (r : Requester) (h : Handle) (m : Mode) (s : State) : Option ResultCode :=
  match s.validateHandle h with
  | some c => some c
  | none =>
    let e := s.lock h.index
    if m = .shared ∧ e.kind = .exclusive then some .wrongKind
    else if e.heldBy r = true then some .alreadyHeld
    else if e.waitedBy r = true then some .alreadyWaiting
    else none

/-- R32: the immediate grant of lock `i`. -/
def grantNow (r : Requester) (i : LockIndex) (m : Mode) (s : State) : State × Answer :=
  let e := s.lock i
  let answer := answerGranted (s.handleOf i) m e.mark
  let granted := s.setLock i (e.grantTo r m)
  if e.leased m then
    if s.freeRoom r.port < 1 then (s, .bare .inboxFull) else ((granted.reserve r.port 1).startLease i, answer)
  else (granted, answer)

/-- R34: the reservations a request that must wait needs. -/
def reservationsNeeded (e : LockEntry) (m : Mode) : Nat := if e.leased m then 2 else 1

/-- R34, R35: the request joins the tail of lock `i`'s queue, or is refused for want of a record or of room. -/
def queueRequest (r : Requester) (i : LockIndex) (m : Mode) (limit : Word) (s : State) : State × Answer :=
  let n := reservationsNeeded (s.lock i) m
  match s.recordRefusal r.port with
  | some c => (s, .bare c)
  | none =>
    if s.freeRoom r.port < n then (s, .bare .inboxFull)
    else
      let ticket := s.nextTicket r.port
      let t := (s.enqueue ⟨r, i, m, ticket, n⟩).reserve r.port n
      (if limit = Config.noLimit then t else t.insertDeadline (.wait i r) (s.after limit), answerQueued ticket)

/-- R30 to R35: ACQUIRE of handle `h` in mode `m` with wait limit `limit` by requester `r`. -/
def acquireLock (r : Requester) (h : Handle) (m : Mode) (limit : Word) (s : State) : State × Answer :=
  match acquireRefusal r h m s with
  | some c => (s, .bare c)
  | none =>
    let e := s.lock h.index
    if e.queue.isEmpty && e.compatible m then grantNow r h.index m s
    else if limit = 0 then (s, .bare .contended)
    else queueRequest r h.index m limit s

/-- R45, R46: RELEASE of handle `h` by requester `r`. -/
def releaseLock (r : Requester) (h : Handle) (s : State) : State × Answer :=
  match s.validateHandle h with
  | some c => (s, .bare c)
  | none =>
    let i := h.index
    let e := s.lock i
    if e.exclusiveHolder = some r then
      (((s.setLock i { e with exclusiveHolder := none }).endLease i r.port).evaluate i, .bare .ok)
    else if r ∈ e.sharedHolders then
      ((s.setLock i { e with sharedHolders := e.sharedHolders.erase r }).evaluate i, .bare .ok)
    else (s, .bare .notHolder)

/-- R47, R48: DOWNGRADE of handle `h` by requester `r`. -/
def downgradeLock (r : Requester) (h : Handle) (s : State) : State × Answer :=
  match s.validateHandle h with
  | some c => (s, .bare c)
  | none =>
    let i := h.index
    let e := s.lock i
    if e.exclusiveHolder ≠ some r then (s, .bare .notHolder)
    else if e.kind = .exclusive then (s, .bare .wrongKind)
    else
      (((s.setLock i { e with exclusiveHolder := none, sharedHolders := [r] }).endLease i r.port).evaluate i,
        .bare .ok)

/-- R69, R70: RENEW of handle `h` by requester `r`. -/
def renewLease (r : Requester) (h : Handle) (s : State) : State × Answer :=
  match s.validateHandle h with
  | some c => (s, .bare c)
  | none =>
    let e := s.lock h.index
    if e.exclusiveHolder ≠ some r then (s, .bare .notHolder)
    else if e.leasePeriod = 0 then (s, .bare .noLease)
    else
      (s.moveDeadline (.lease h.index) (s.after e.leasePeriod),
        answerRenew (s.handleOf h.index) (s.after e.leasePeriod))

/-- R49: port `p`'s record with ticket `t`, and the lock whose queue holds it, if there is one. -/
def State.findTicket (s : State) (p : Port) (t : BitVec 8) : Option (LockIndex × WaiterRecord) :=
  (List.finRange 64).findSome? fun i =>
    ((s.lock i).queue.find? fun w => w.requester.port == p && w.ticket == t).map fun w => (i, w)

/-- R49: CANCEL of ticket `t` by port `p`. -/
def cancelWait (p : Port) (t : BitVec 8) (s : State) : State × Answer :=
  match s.findTicket p t with
  | none => (s, .bare .noSuchTicket)
  | some (i, w) =>
    ((s.discardRecord i w).evaluate i, answerCancel (s.handleOf i) w.requester.agent w.mode)

/-- ACQUIRE (R30 to R37). -/
def execAcquire (p : Port) (s : State) : Host.Outcome State Fault Refusal :=
  .next (s.serve p .acquire fun q a => acquireLock ⟨q, a.lockAgent⟩ a.handle a.mode a.waitLimit)

/-- RELEASE (R45, R46). -/
def execRelease (p : Port) (s : State) : Host.Outcome State Fault Refusal :=
  .next (s.serve p .release fun q a => releaseLock ⟨q, a.lockAgent⟩ a.handle)

/-- DOWNGRADE (R47, R48). -/
def execDowngrade (p : Port) (s : State) : Host.Outcome State Fault Refusal :=
  .next (s.serve p .downgrade fun q a => downgradeLock ⟨q, a.lockAgent⟩ a.handle)

/-- RENEW (R69 to R71). -/
def execRenew (p : Port) (s : State) : Host.Outcome State Fault Refusal :=
  .next (s.serve p .renew fun q a => renewLease ⟨q, a.lockAgent⟩ a.handle)

/-- CANCEL (R49, R50). -/
def execCancel (p : Port) (s : State) : Host.Outcome State Fault Refusal :=
  .next (s.serve p .cancel fun q a => cancelWait q a.ticket)

end Sys2Proof.Machine
end

