-- ==== Sys2Proof/Machine/Flags.lean ====
section
/-! DEFINITION. What a host sees: the status flags, the interrupt line (R162) and the words of the window as a read
returns them (R164 to R168, R173). -/

namespace Sys2Proof.Machine

/-- The four interrupt conditions of port `p` in the bit places of R168: inbox not empty (R86), departure summary not empty
(R129), completion flag, overrun flag (R161). -/
def State.conditions (s : State) (p : Port) : BitVec 4 :=
  BitVec.ofNat 4
    (bitNat (!(s.inbox p).entries.isEmpty) + 2 * bitNat ((s.session p).summary != 0)
      + 4 * bitNat (s.unit p).completion + 8 * bitNat (s.unit p).overrun)

/-- R162: INTn of port `p` is asserted (driven low) while an enabled condition holds. While RESETn is low every INTn is
released (R163). -/
def State.intn (s : State) (p : Port) : Bool :=
  !s.resetLow && ((s.interface p).enables &&& s.conditions p) != 0

/-- R54: the number of CLKIN cycles the PRESCALE word stands for. -/
def prescaleCycles (w : Word) : Nat := if w = 0 then 65536 else w.toNat

/-- PSTATE (R131, R168). -/
def State.pstateWord (s : State) (p : Port) : Word :=
  let r := s.session p
  fieldAt r.state.code 0 2 ||| fieldAt p.val 2 2 ||| fieldAt (bitNat (p == s.supervisor)) 4 1
    ||| fieldAt r.lastCause.code 5 3 ||| fieldAt r.generation.toNat 8 8

/-- CMD as read (R155, R170). -/
def CommandUnit.cmdWord (u : CommandUnit) : Word := fieldAt (bitNat u.busy) 15 1 ||| fieldAt u.lastCode.toNat 0 8

/-- ICOUNT (R83, R168). -/
def Inbox.countWord (b : Inbox) : Word := fieldAt b.entries.length 0 5 ||| fieldAt b.reserved 8 5

/-- ISTAT as read (R161, R168). -/
def CommandUnit.istatWord (u : CommandUnit) : Word :=
  fieldAt (bitNat u.completion) 2 1 ||| fieldAt (bitNat u.overrun) 3 1

/-- The stage code and the index of a position (R146, R168). -/
def Position.stageAndIndex : Position → Nat × Nat
  | .locks i => (0, i.val)
  | .barriers b => (1, b.val)
  | .final => (2, 0)

/-- SWEEP in the supervisor's window: 0 in every field while the engine is IDLE (R146, R168). -/
def State.sweepWord (s : State) : Word :=
  match s.engine with
  | .idle => 0
  | .busy p pos =>
    fieldAt pos.stageAndIndex.2 0 6 ||| fieldAt pos.stageAndIndex.1 6 2 ||| fieldAt p.val 8 2
      ||| fieldAt s.departureQueue.length 10 2 ||| fieldAt 1 15 1

/-- The word at offset `off` of port `p`'s window (R164), when the port answers reads. -/
def State.windowWord (s : State) (p : Port) (off : Offset) : Word :=
  match off.val with
  | 0x00 => Config.ident
  | 0x01 => s.pstateWord p
  | 0x02 => (s.interface p).args.arg0
  | 0x03 => (s.interface p).args.arg1
  | 0x04 => (s.interface p).args.arg2
  | 0x05 => (s.interface p).args.arg3
  | 0x06 => (s.unit p).cmdWord
  | 0x07 => (s.unit p).rcode
  | 0x08 => (s.unit p).res0
  | 0x09 => (s.unit p).res1
  | 0x0A => (s.unit p).res2
  | 0x0B => (s.inbox p).countWord
  | 0x0C => headWord (s.inbox p).entries 0
  | 0x0D => headWord (s.inbox p).entries 1
  | 0x0E => headWord (s.inbox p).entries 2
  | 0x0F => headWord (s.inbox p).entries 3
  | 0x10 => headWord (s.inbox p).entries 4
  | 0x12 => (s.session p).summary.setWidth 16
  | 0x13 => (s.interface p).enables.setWidth 16
  | 0x14 => (s.unit p).istatWord
  | 0x15 => (s.session p).keepalive
  | 0x16 => fieldAt (s.pool p).cap 0 5
  | 0x18 => s.tick.extractLsb' 0 16
  | 0x19 => (s.interface p).snapshot
  | 0x1A => s.prescale
  | 0x1B => if p = s.supervisor then s.sweepWord else 0
  | 0x1C => fieldAt s.freeRecords 0 5
  | 0x1D => fieldAt s.freeLocks.length 0 6
  | _ => 0

/-- The word a read of port `p` at offset `off` returns: 0 while RESETn or the port's PRSTn is low (R126, R163). -/
def State.readWord (s : State) (p : Port) (off : Offset) : Word :=
  if s.takesBus p then s.windowWord p off else 0

end Sys2Proof.Machine
end

