-- ==== Sys2Proof/Machine/Deadlines.lean ====
section
/-! DEFINITION. The deadline unit's events (chapter 3): the tick, and the three kinds of expiry. -/

namespace Sys2Proof.Machine

/-- R55: the entry is due once the counter has reached its tick, and stays so. -/
def Deadline.mark (d : Deadline) (now : Ticks) : Deadline := { d with due := d.due || d.tick == now }

/-- R53, R54: the tick in progress has passed. The counter advances, entries it reaches fall due, and the next tick starts
with the prescale value now in force. -/
def State.advanceTick (s : State) : State :=
  { s with
    tick := s.tick + 1
    deadlines := s.deadlines.map fun d => d.mark (s.tick + 1)
    cycleCount := s.cycleCount + s.tickLength
    tickLength := prescaleCycles s.prescale }

/-- R62, R63: the wait expiry of requester `who`'s record on lock `i`. -/
def State.expireWait (s : State) (i : LockIndex) (who : Requester) : State :=
  match (s.lock i).queue.find? fun w => w.requester == who with
  | none => s
  | some w =>
    let t := s.freeRecord i w
    let t :=
      if s.attached who.port then
        (t.deliverReserved who.port ⟨who.agent, .waitExpired (s.handleOf i) w.mode w.ticket⟩).dropReservations who.port
          (w.reservations - 1)
      else t.dropReservations who.port w.reservations
    t.evaluate i

/-- R66, R67: the lease expiry of lock `i`. -/
def State.expireLease (s : State) (i : LockIndex) : State :=
  let e := s.lock i
  match e.exclusiveHolder with
  | none => s
  | some r =>
    let mark : Mark := if s.attached r.port then .revoked else .abandoned
    let t := s.setLock i { e with exclusiveHolder := none, mark := mark }
    (t.deliverReserved r.port ⟨r.agent, .leaseRevoked (s.handleOf i)⟩).evaluate i

/-- R121: the keepalive expiry of port `p`: an ATTACHED port departs. -/
def State.expireKeepalive (s : State) (p : Port) : State := if s.attached p then s.depart p .keepalive else s

/-- TICK (R53, R54). While RESETn is low no tick runs: the first starts at its release (R53, R163). -/
def execTick (s : State) : Host.Outcome State Fault Refusal := .next (if s.resetLow then s else s.advanceTick)

/-- WAIT_EXPIRY (R61 to R63): the head of the list, if it is a wait deadline that is due. -/
def execWaitExpiry (s : State) : Host.Outcome State Fault Refusal :=
  .next (match s.dueHead with
    | some (.wait i who) => s.dropHeadDeadline.expireWait i who
    | _ => s)

/-- LEASE_EXPIRY (R61, R66, R67): the head of the list, if it is a lease deadline that is due. -/
def execLeaseExpiry (s : State) : Host.Outcome State Fault Refusal :=
  .next (match s.dueHead with
    | some (.lease i) => s.dropHeadDeadline.expireLease i
    | _ => s)

/-- KEEPALIVE_EXPIRY (R61, R121): the head of the list, if it is a keepalive deadline that is due. -/
def execKeepaliveExpiry (s : State) : Host.Outcome State Fault Refusal :=
  .next (match s.dueHead with
    | some (.keepalive p) => s.dropHeadDeadline.expireKeepalive p
    | _ => s)

end Sys2Proof.Machine
end

