-- ==== Sys2Proof/Machine/Locks.lean ====
section
/-! DEFINITION. The lock table's commands on locks as objects (chapter 1): ALLOC, RETIRE, DEFINE_FIXED and QUERY. -/

namespace Sys2Proof.Machine

/-- R13: ALLOC of kind `k` and lease period `lease` for port `p`. -/
def allocLock (p : Port) (k : Kind) (lease : Word) (s : State) : State × Answer :=
  match s.freeLocks with
  | [] => (s, .bare .noFreeLock)
  | i :: rest =>
    ({ s.setLock i { s.lock i with state := .allocated, kind := k, leasePeriod := lease, allocator := some p } with
        freeLocks := rest },
      answerHandle (s.handleOf i))

/-- R14: what RETIRE of handle `h` by port `p` is refused with, if it is. -/
def retireRefusal (p : Port) (h : Handle) (s : State) : Option ResultCode :=
  match s.validateHandle h with
  | some r => some r
  | none =>
    let e := s.lock h.index
    if h.index.val < Config.fixedLocks then some .fixedLock
    else if e.allocator ≠ none ∧ e.allocator ≠ some p ∧ p ≠ s.supervisor then some .notOwner
    else if e.inUse = true then some .inUse
    else none

/-- R15: the retired lock entry. -/
def LockEntry.retired (e : LockEntry) : LockEntry :=
  { e with
    state := .free
    generation := e.generation + 1
    mark := .none
    leasePeriod := 0
    kind := .exclusive
    allocator := none }

/-- R14, R15: RETIRE of handle `h` by port `p`. -/
def retireLock (p : Port) (h : Handle) (s : State) : State × Answer :=
  match retireRefusal p h s with
  | some r => (s, .bare r)
  | none =>
    ({ s.setLock h.index (s.lock h.index).retired with freeLocks := s.freeLocks ++ [h.index] }, .bare .ok)

/-- R17: DEFINE_FIXED of lock `i`. -/
def defineFixedLock (i : LockIndex) (k : Kind) (lease : Word) (s : State) : State × Answer :=
  if (s.lock i).inUse then (s, .bare .inUse)
  else (s.setLock i { s.lock i with kind := k, leasePeriod := lease }, answerHandle (s.handleOf i))

/-- R19: QUERY of handle `h`. -/
def queryLock (h : Handle) (s : State) : State × Answer :=
  match s.validateHandle h with
  | some r => (s, .bare r)
  | none => (s, answerQuery (s.lock h.index))

/-- ALLOC (R13). -/
def execAlloc (p : Port) (s : State) : Host.Outcome State Fault Refusal :=
  .next (s.serve p .alloc fun q a => allocLock q a.allocKind a.lease)

/-- RETIRE (R14 to R16). -/
def execRetire (p : Port) (s : State) : Host.Outcome State Fault Refusal :=
  .next (s.serve p .retire fun q a => retireLock q a.handle)

/-- DEFINE_FIXED (R17, R18). -/
def execDefineFixed (p : Port) (s : State) : Host.Outcome State Fault Refusal :=
  .next (s.serve p .defineFixed fun _ a => defineFixedLock a.fixedIndex a.fixedKind a.lease)

/-- QUERY (R19, R20). -/
def execQuery (p : Port) (s : State) : Host.Outcome State Fault Refusal :=
  .next (s.serve p .query fun _ a => queryLock a.handle)

end Sys2Proof.Machine
end

