-- ==== Sys2Proof/Machine/Sessions.lean ====
section
/-! DEFINITION. The session unit's commands (chapter 6): ATTACH, DETACH, TOUCH and FORCE_DETACH. -/

namespace Sys2Proof.Machine

/-- R114: the generation of the next session: from 255 it goes to 1. -/
def nextGeneration (g : BitVec 8) : BitVec 8 := if g = 255 then 1 else g + 1

/-- R116: ATTACH of port `p`. -/
def attachPort (p : Port) (s : State) : State × Answer :=
  let r := s.session p
  if r.state ≠ .detached then (s, .bare .wrongState)
  else
    let t := s.setSession p { r with state := .attached, generation := nextGeneration r.generation }
    let t := t.setPool p { t.pool p with nextTicket := 0 }
    (if r.keepalive = 0 then t else t.insertDeadline (.keepalive p) (t.after r.keepalive),
      answerGeneration (nextGeneration r.generation))

/-- R117: DETACH of port `p`. -/
def detachPort (p : Port) (s : State) : State × Answer :=
  (s.depart p .detach, answerGeneration (s.session p).generation)

/-- R118: TOUCH of port `p`. Its keepalive was renewed when its command unit took it (R149). -/
def touchPort (p : Port) (s : State) : State × Answer := (s, answerGeneration (s.session p).generation)

/-- R119: FORCE_DETACH of port `target`. -/
def forceDetachPort (target : Port) (s : State) : State × Answer :=
  if s.attached target = false then (s, .bare .targetDetached)
  else (s.depart target .forced, answerGeneration (s.session target).generation)

/-- ATTACH (R115, R116). -/
def execAttach (p : Port) (s : State) : Host.Outcome State Fault Refusal :=
  .next (s.serve p .attach fun q _ => attachPort q)

/-- DETACH (R115, R117). -/
def execDetach (p : Port) (s : State) : Host.Outcome State Fault Refusal :=
  .next (s.serve p .detach fun q _ => detachPort q)

/-- TOUCH (R115, R118). -/
def execTouch (p : Port) (s : State) : Host.Outcome State Fault Refusal :=
  .next (s.serve p .touch fun q _ => touchPort q)

/-- FORCE_DETACH (R115, R119). -/
def execForceDetach (p : Port) (s : State) : Host.Outcome State Fault Refusal :=
  .next (s.serve p .forceDetach fun _ a => forceDetachPort a.target)

end Sys2Proof.Machine
end

