-- ==== Sys2Proof/Machine/Barriers.lean ====
section
/-! DEFINITION. The barrier unit's commands (chapter 5). -/

namespace Sys2Proof.Machine

/-- The arrived members in member-list order (R97, R100, R104). -/
def Barrier.arrivals (x : Barrier) : List Requester := x.members.filter fun r => x.arrived.contains r

/-- R97: hand a reserved delivery to each requester of the list, in its order. For a port that is not ATTACHED the entry is
discarded and the reservation dropped (R81, R104). -/
def State.deliverToAll (s : State) (body : EntryBody) (rs : List Requester) : State :=
  rs.foldl (fun t r => t.deliverReserved r.port ⟨r.agent, body⟩) s

/-- R100: barrier `b` opens. -/
def State.openBarrier (s : State) (b : BarrierIndex) : State :=
  let x := s.barrier b
  (s.setBarrier b { x with phase := x.phase + 1, arrived := [], state := .idle }).deliverToAll
    (.barrierOpen b (x.phase + 1)) x.arrivals

/-- R104: the round of barrier `b` breaks with cause port `c`. -/
def State.breakRound (s : State) (b : BarrierIndex) (c : Port) : State :=
  let x := s.barrier b
  (s.setBarrier b
      { x with phase := x.phase + 1, arrived := [], state := if x.members.isEmpty then .idle else .broken }).deliverToAll
    (.barrierBroken b (x.phase + 1) c) x.arrivals

/-- R98: JOIN of barrier `b` by requester `r`. -/
def joinBarrier (r : Requester) (b : BarrierIndex) (s : State) : State × Answer :=
  let x := s.barrier b
  if r ∈ x.members then (s, .bare .alreadyMember)
  else if Config.barrierMembers ≤ x.members.length then (s, .bare .barrierFull)
  else (s.setBarrier b { x with members := x.members ++ [r] }, answerJoin x)

/-- R99: every remaining member is in the arrived set, and the arrived set is not empty. -/
def Barrier.complete (x : Barrier) : Bool := !x.arrived.isEmpty && x.members.all fun r => x.arrived.contains r

/-- R99: LEAVE of barrier `b` by requester `r`. -/
def leaveBarrier (r : Requester) (b : BarrierIndex) (s : State) : State × Answer :=
  let x := s.barrier b
  if r ∉ x.members then (s, .bare .notMember)
  else if r ∈ x.arrived then (s, .bare .arrived)
  else
    let y := { x with members := x.members.erase r }
    if y.complete then ((s.setBarrier b y).openBarrier b, answerLeave (y.phase + 1) true)
    else
      (s.setBarrier b { y with state := if y.members.isEmpty then .idle else y.state }, answerLeave y.phase false)

/-- R101, R102: ARRIVE at barrier `b` by requester `r`. -/
def arriveBarrier (r : Requester) (b : BarrierIndex) (s : State) : State × Answer :=
  let x := s.barrier b
  if r ∉ x.members then (s, .bare .notMember)
  else if x.state = .broken then (s, .bare .broken)
  else if r ∈ x.arrived then (s, .bare .arrived)
  else if x.members.all fun m => m == r || x.arrived.contains m then
    (s.openBarrier b, answerPhase .opened (x.phase + 1))
  else if s.freeRoom r.port = 0 then (s, .bare .inboxFull)
  else
    ((s.setBarrier b { x with arrived := x.arrived ++ [r], state := .gathering }).reserve r.port 1,
      answerPhase .queued x.phase)

/-- R103: WITHDRAW from barrier `b` by requester `r`. -/
def withdrawBarrier (r : Requester) (b : BarrierIndex) (s : State) : State × Answer :=
  let x := s.barrier b
  if r ∉ x.members then (s, .bare .notMember)
  else if r ∉ x.arrived then (s, .bare .notArrived)
  else
    let rest := x.arrived.erase r
    ((s.setBarrier b { x with arrived := rest, state := if rest.isEmpty then .idle else .gathering }).dropReservations
        r.port 1,
      answerPhase .ok x.phase)

/-- R105: BREAK of barrier `b` by requester `r`. -/
def breakBarrier (r : Requester) (b : BarrierIndex) (s : State) : State × Answer :=
  let x := s.barrier b
  if r ∉ x.members then (s, .bare .notMember)
  else
    match x.state with
    | .gathering => (s.breakRound b r.port, answerPhase .ok (x.phase + 1))
    | .idle => (s.setBarrier b { x with state := .broken }, answerPhase .ok x.phase)
    | .broken => (s, answerPhase .ok x.phase)

/-- R106: REARM of barrier `b` by requester `r`. -/
def rearmBarrier (r : Requester) (b : BarrierIndex) (s : State) : State × Answer :=
  let x := s.barrier b
  if r ∉ x.members then (s, .bare .notMember)
  else if x.state ≠ .broken then (s, .bare .wrongState)
  else (s.setBarrier b { x with state := .idle }, answerPhase .ok x.phase)

/-- JOIN (R98). -/
def execJoin (p : Port) (s : State) : Host.Outcome State Fault Refusal :=
  .next (s.serve p .join fun q a => joinBarrier ⟨q, a.barrierAgent⟩ a.barrier)

/-- LEAVE (R99). -/
def execLeave (p : Port) (s : State) : Host.Outcome State Fault Refusal :=
  .next (s.serve p .leave fun q a => leaveBarrier ⟨q, a.barrierAgent⟩ a.barrier)

/-- ARRIVE (R101, R102). -/
def execArrive (p : Port) (s : State) : Host.Outcome State Fault Refusal :=
  .next (s.serve p .arrive fun q a => arriveBarrier ⟨q, a.barrierAgent⟩ a.barrier)

/-- WITHDRAW (R103). -/
def execWithdraw (p : Port) (s : State) : Host.Outcome State Fault Refusal :=
  .next (s.serve p .withdraw fun q a => withdrawBarrier ⟨q, a.barrierAgent⟩ a.barrier)

/-- BREAK (R105). -/
def execBreak (p : Port) (s : State) : Host.Outcome State Fault Refusal :=
  .next (s.serve p .breakBarrier fun q a => breakBarrier ⟨q, a.barrierAgent⟩ a.barrier)

/-- REARM (R106). -/
def execRearm (p : Port) (s : State) : Host.Outcome State Fault Refusal :=
  .next (s.serve p .rearm fun q a => rearmBarrier ⟨q, a.barrierAgent⟩ a.barrier)

/-- BARRIER_QUERY (R107). -/
def execBarrierQuery (p : Port) (s : State) : Host.Outcome State Fault Refusal :=
  .next (s.serve p .barrierQuery fun _ a t => (t, answerBarrierQuery (t.barrier a.barrier)))

end Sys2Proof.Machine
end

