-- ==== Sys2Proof/Machine/Sweep.lean ====
section
/-! DEFINITION. The sweep engine's events (chapter 7): the lock visit, the barrier visit and the final step. -/

namespace Sys2Proof.Machine

/-- R135: the position after the event at this one. -/
def Position.next : Position → Position
  | .locks i => if h : i.val + 1 < 64 then .locks ⟨i.val + 1, h⟩ else .barriers 0
  | .barriers b => if h : b.val + 1 < 8 then .barriers ⟨b.val + 1, h⟩ else .final
  | .final => .final

/-- R136: every waiter record of port `p` on lock `i` is discarded. -/
def State.sweepRecords (s : State) (p : Port) (i : LockIndex) : State :=
  ((s.lock i).queue.filter fun w => w.requester.port == p).foldl (fun t w => t.discardRecord i w) s

/-- R136, R137: the lock entry without the holds of port `p` and without its name as allocator. An exclusive hold of the
port leaves the mark ABANDONED. -/
def LockEntry.sweptOf (e : LockEntry) (p : Port) : LockEntry :=
  let taken : Bool := e.exclusiveHolder.any fun r => r.port == p
  { e with
    exclusiveHolder := if taken then none else e.exclusiveHolder
    mark := if taken then .abandoned else e.mark
    sharedHolders := e.sharedHolders.filter fun r => r.port != p
    allocator := if e.allocator = some p then none else e.allocator }

/-- R136, R137: port `p` has a waiter record or a hold on the lock. -/
def LockEntry.holdsOrWaits (e : LockEntry) (p : Port) : Bool :=
  e.queue.any (fun w => w.requester.port == p) || e.exclusiveHolder.any (fun r => r.port == p)
    || e.sharedHolders.any fun r => r.port == p

/-- R136, R137: the sweep's visit to lock `i` for port `p`. -/
def State.visitLock (s : State) (p : Port) (i : LockIndex) : State :=
  let e := s.lock i
  let t := s.sweepRecords p i
  let t := if e.exclusiveHolder.any fun r => r.port == p then t.endLease i p else t
  let t := t.setLock i ((t.lock i).sweptOf p)
  if e.holdsOrWaits p then t.evaluate i else t

/-- R108, R139: the sweep's visit to barrier `b` for port `p`. -/
def State.visitBarrier (s : State) (p : Port) (b : BarrierIndex) : State :=
  let x := s.barrier b
  let mine := fun r : Requester => r.port == p
  if x.members.any mine = false then s
  else
    let y := { x with
      members := x.members.filter fun r => !mine r
      arrived := x.arrived.filter fun r => !mine r }
    if x.arrived.isEmpty then s.setBarrier b { y with state := if y.members.isEmpty then .idle else y.state }
    else ((s.setBarrier b y).dropReservations p (x.arrived.filter mine).length).breakRound b p

/-- R130: what the end of port `p`'s sweep does to the session record of port `q`. -/
def Session.afterSweepOf (r : Session) (p q : Port) : Session :=
  if q = p then { r with state := .detached }
  else if r.state = .attached then { r with summary := r.summary ||| BitVec.ofNat 4 (2 ^ p.val) }
  else r

/-- R130: the session unit takes the report that port `p`'s sweep has ended. -/
def State.reportSweepEnd (s : State) (p : Port) : State :=
  { s with sessions := Vector.ofFn fun q => (s.session q).afterSweepOf p q }

/-- R140 step 2, R134: the engine takes the next port from the departure queue, or goes IDLE. -/
def State.nextSweep (s : State) : State :=
  match s.departureQueue with
  | [] => { s with engine := .idle }
  | q :: rest =>
    { s.setSession q { s.session q with state := .sweeping } with
      engine := .busy q (.locks 0)
      departureQueue := rest }

/-- LOCK_VISIT (R136, R137): at a position in the locks. -/
def execLockVisit (s : State) : Host.Outcome State Fault Refusal :=
  .next (match s.engine with
    | .busy p (.locks i) => { s.visitLock p i with engine := .busy p (Position.locks i).next }
    | _ => s)

/-- BARRIER_VISIT (R108, R139): at a position in the barriers. -/
def execBarrierVisit (s : State) : Host.Outcome State Fault Refusal :=
  .next (match s.engine with
    | .busy p (.barriers b) => { s.visitBarrier p b with engine := .busy p (Position.barriers b).next }
    | _ => s)

/-- FINAL_STEP (R140): at the position FINAL. -/
def execFinalStep (s : State) : Host.Outcome State Fault Refusal :=
  .next (match s.engine with
    | .busy p .final => (s.reportSweepEnd p).nextSweep
    | _ => s)

end Sys2Proof.Machine
end

