-- ==== Sys2Proof/Machine/Notes.lean ====
section
/-! DEFINITION. The inbox unit's commands and register actions (chapter 4): POST and POP. -/

namespace Sys2Proof.Machine

/-- R91, R92: POST of a note by port `p`. -/
def postNote (p target : Port) (targetAgent senderAgent : Agent) (tag : BitVec 8) (data : BitVec 32) (s : State) :
    State × Answer :=
  if s.attached target = false then (s, .bare .targetDetached)
  else if s.freeRoom target = 0 then (s, .bare .targetFull)
  else
    (s.deliver target ⟨targetAgent, .note p senderAgent tag data⟩, answerGeneration (s.session target).generation)

/-- R85: a write to POP takes the entry at the head of the port's inbox; a pop on an empty inbox has no effect. -/
def State.popInbox (s : State) (p : Port) : State :=
  s.setInbox p { s.inbox p with entries := (s.inbox p).entries.tail }

/-- POST (R90 to R93). -/
def execPost (p : Port) (s : State) : Host.Outcome State Fault Refusal :=
  .next (s.serve p .post fun q a => postNote q a.target a.targetAgent a.senderAgent a.tag a.data)

/-- POP (R85): any value written pops. -/
def execPop (p : Port) (_v : Word) (s : State) : Host.Outcome State Fault Refusal :=
  .next (s.onWrite p fun t => t.popInbox p)

end Sys2Proof.Machine
end

