-- ==== Sys2Proof/Machine/Resets.lean ====
section
/-! DEFINITION. Port reset and device reset (R125 to R127, R147, R158, R159, R163). -/

namespace Sys2Proof.Machine

/-- R125: what a port reset sets of port `p`'s window, in every port state; the command in flight is abandoned (R158). The
pool's count and ticket counter, and the session's state, generation and last cause, are not changed. -/
def State.resetWindow (s : State) (p : Port) : State :=
  let s := s.setInterface p { s.interface p with args := ⟨0, 0, 0, 0⟩, enables := 0, snapshot := 0 }
  let s := s.setUnit p .atReset
  let s := s.setSession p { s.session p with summary := 0, keepalive := 0 }
  s.setPool p { s.pool p with cap := Config.resetCap }

/-- R125: a port reset of port `p`: an ATTACHED port departs with cause PORT_RESET, and the window is reset. -/
def State.resetPort (s : State) (p : Port) : State :=
  (if s.attached p then s.depart p .portReset else s).resetWindow p

/-- PORT_RESET (R125): PRSTn of port `p` goes low. While RESETn is low the edge is no port reset, but the pin is low
(R163). With the pin low already there is no edge. -/
def execPortReset (p : Port) (s : State) : Host.Outcome State Fault Refusal :=
  .next (if s.held p then s
    else if s.resetLow then s.setHeld p true
    else (s.resetPort p).setHeld p true)

/-- SOFT_RESET (R125, R126, R165): a write to PCTL with bit 0 set is a port reset; with bit 0 clear it has no effect. -/
def execSoftReset (p : Port) (v : Word) (s : State) : Host.Outcome State Fault Refusal :=
  .next (s.onWrite p fun t => if v.getLsbD 0 then t.resetPort p else t)

/-- PRSTN_RELEASE (R126): PRSTn of port `p` goes high. -/
def execPrstnRelease (p : Port) (s : State) : Host.Outcome State Fault Refusal := .next (s.setHeld p false)

/-- R147, R159: every state at its device-reset value. The levels of the PRSTn pins are the board's and stay (R163), and so
does the queue of commands still to come (log 14). -/
def State.deviceReset (s : State) : State := { State.reset with prstLow := s.prstLow, pending := s.pending }

/-- DEVICE_RESET (R147, R163): RESETn goes low. -/
def execDeviceReset (s : State) : Host.Outcome State Fault Refusal := .next s.deviceReset

/-- RESETN_RELEASE (R53, R127, R163): RESETn goes high. The supervisor identity is sampled and the first tick starts. With
the pin high already there is no edge, and the identity is held (R127). -/
def execResetnRelease (sup : Port) (s : State) : Host.Outcome State Fault Refusal :=
  .next (if s.resetLow then
      { s with resetLow := false, supervisor := sup, tickLength := prescaleCycles s.prescale }
    else s)

end Sys2Proof.Machine
end

