-- ==== Sys2Proof/Machine/Window.lean ====
section
/-! DEFINITION. The command unit's events and the window's register writes and reads (chapters 8 and 9). -/

namespace Sys2Proof.Machine

/-- A taken write of `v` to CMD: a take while BUSY is clear (R149), else the overrun flag is set and the code is lost
(R150). -/
def State.writeCmd (s : State) (p : Port) (v : Word) : State :=
  if (s.unit p).busy then s.setUnit p { s.unit p with overrun := true } else s.takeCommand p v

/-- A taken write of `v` to an argument word (R151, R165). -/
def State.writeArgs (s : State) (p : Port) (a : Args) : State := s.setInterface p { s.interface p with args := a }

/-- R129: each bit 3:0 written with a one removes that port from the summary. -/
def State.writeDsum (s : State) (p : Port) (v : Word) : State :=
  s.setSession p { s.session p with summary := (s.session p).summary &&& ~~~(v.extractLsb' 0 4) }

/-- R160: the four enables take bits 3:0. -/
def State.writeIen (s : State) (p : Port) (v : Word) : State :=
  s.setInterface p { s.interface p with enables := v.extractLsb' 0 4 }

/-- R161: bit 2 written with a one clears the completion flag, bit 3 the overrun flag. -/
def State.writeIstat (s : State) (p : Port) (v : Word) : State :=
  s.setUnit p { s.unit p with
    completion := (s.unit p).completion && !v.getLsbD 2
    overrun := (s.unit p).overrun && !v.getLsbD 3 }

/-- R72, R120: the interval is set; for an ATTACHED port the keepalive deadline is moved, inserted or removed. -/
def State.writeKalive (s : State) (p : Port) (v : Word) : State :=
  let t := s.setSession p { s.session p with keepalive := v }
  if s.attached p then
    if v = 0 then t.removeDeadline (.keepalive p) else t.moveDeadline (.keepalive p) (s.after v)
  else t

/-- R23: 0 to 24 sets the cap; a larger value is ignored. -/
def State.writeWcap (s : State) (p : Port) (v : Word) : State :=
  if v.toNat ≤ Config.waiterRecords then s.setPool p { s.pool p with cap := v.toNat } else s

/-- R54, R167: the supervisor's write sets the prescale value; any other port's is ignored. -/
def State.writePrescale (s : State) (p : Port) (v : Word) : State :=
  if p = s.supervisor then { s with prescale := v } else s

/-- R164, R165: a taken write of `v` at offset `off`. The words not listed are read-only: their write is ignored. -/
def State.writeWindow (s : State) (p : Port) (off : Offset) (v : Word) : State :=
  let a := (s.interface p).args
  match off.val with
  | 0x02 => s.writeArgs p { a with arg0 := v }
  | 0x03 => s.writeArgs p { a with arg1 := v }
  | 0x04 => s.writeArgs p { a with arg2 := v }
  | 0x05 => s.writeArgs p { a with arg3 := v }
  | 0x06 => s.writeCmd p v
  | 0x11 => s.popInbox p
  | 0x12 => s.writeDsum p v
  | 0x13 => s.writeIen p v
  | 0x14 => s.writeIstat p v
  | 0x15 => s.writeKalive p v
  | 0x16 => s.writeWcap p v
  | 0x17 => if v.getLsbD 0 then s.resetPort p else s
  | 0x1A => s.writePrescale p v
  | _ => s

/-- R166: a taken read of TICKL puts counter bits 15:0 on the bus and loads the snapshot with bits 31:16. While the port
takes no read, 0 is returned and nothing is captured (R126, R163). -/
def State.readTickl (s : State) (p : Port) : State :=
  if s.takesBus p then
    s.setInterface p { s.interface p with snapshot := s.tick.extractLsb' 16 16, busOut := s.readWord p 0x18 }
  else s.setInterface p { s.interface p with busOut := s.readWord p 0x18 }

/-- CMD_WRITE (R149, R150, R170): a write to CMD. -/
def execCmdWrite (p : Port) (v : Word) (s : State) : Host.Outcome State Fault Refusal :=
  .next (s.onWrite p fun t => t.writeCmd p v)

/-- OVERRUN (R150): the write to CMD that meets a set BUSY. R150 decides a CMD write and a completion by which is taken
first: the same write with BUSY clear is a take (R149). -/
def execOverrun (p : Port) (v : Word) (s : State) : Host.Outcome State Fault Refusal :=
  .next (s.onWrite p fun t => t.writeCmd p v)

/-- COMPLETION (R154): the outcome that has come back is posted. With none on its way for the command in flight, or no
command in flight, an outcome that arrives is an abandoned command's and is discarded (R158; log 4). The deliveries of the owner's event, with
which R44 and R154 give this event no order, have always been made by then (log 19). -/
def execCompletion (p : Port) (s : State) : Host.Outcome State Fault Refusal :=
  .next (match (s.unit p).inFlight with
    | some ⟨_, _, .answered a⟩ => s.setUnit p ((s.unit p).complete a)
    | _ => s)

/-- SUMMARY_CLEAR (R129). -/
def execSummaryClear (p : Port) (v : Word) (s : State) : Host.Outcome State Fault Refusal :=
  .next (s.onWrite p fun t => t.writeDsum p v)

/-- ISTAT_CLEAR (R161). -/
def execIstatClear (p : Port) (v : Word) (s : State) : Host.Outcome State Fault Refusal :=
  .next (s.onWrite p fun t => t.writeIstat p v)

/-- IEN_WRITE (R160). -/
def execIenWrite (p : Port) (v : Word) (s : State) : Host.Outcome State Fault Refusal :=
  .next (s.onWrite p fun t => t.writeIen p v)

/-- KEEPALIVE_INTERVAL_WRITE (R72, R120). -/
def execKeepaliveIntervalWrite (p : Port) (v : Word) (s : State) : Host.Outcome State Fault Refusal :=
  .next (s.onWrite p fun t => t.writeKalive p v)

/-- WAITER_CAP_WRITE (R23). -/
def execWaiterCapWrite (p : Port) (v : Word) (s : State) : Host.Outcome State Fault Refusal :=
  .next (s.onWrite p fun t => t.writeWcap p v)

/-- PRESCALE_WRITE (R54, R167). -/
def execPrescaleWrite (p : Port) (v : Word) (s : State) : Host.Outcome State Fault Refusal :=
  .next (s.onWrite p fun t => t.writePrescale p v)

/-- TICKL_READ (R166). -/
def execTicklRead (p : Port) (s : State) : Host.Outcome State Fault Refusal := .next (s.readTickl p)

/-- REGISTER_WRITE (R165): a write at any offset has the effect the window gives it. -/
def execRegisterWrite (p : Port) (off : Offset) (v : Word) (s : State) : Host.Outcome State Fault Refusal :=
  .next (s.onWrite p fun t => t.writeWindow p off v)

end Sys2Proof.Machine
end

