-- ==== Sys2Proof/Machine/Dispatch.lean ====
section
/-! DEFINITION. The meaning of each command: one arm per row of spec/opcode_table.json, in the table's order. -/

namespace Sys2Proof.Machine

/-- The effect of a command on everything but the queue of waiting commands. -/
def exec (i : Instr) (s : State) : Host.Outcome State Fault Refusal :=
  match i with
  | .attach p => Sys2Proof.Machine.execAttach p s
  | .detach p => Sys2Proof.Machine.execDetach p s
  | .touch p => Sys2Proof.Machine.execTouch p s
  | .forceDetach p => Sys2Proof.Machine.execForceDetach p s
  | .alloc p => Sys2Proof.Machine.execAlloc p s
  | .retire p => Sys2Proof.Machine.execRetire p s
  | .defineFixed p => Sys2Proof.Machine.execDefineFixed p s
  | .query p => Sys2Proof.Machine.execQuery p s
  | .acquire p => Sys2Proof.Machine.execAcquire p s
  | .release p => Sys2Proof.Machine.execRelease p s
  | .downgrade p => Sys2Proof.Machine.execDowngrade p s
  | .renew p => Sys2Proof.Machine.execRenew p s
  | .cancel p => Sys2Proof.Machine.execCancel p s
  | .post p => Sys2Proof.Machine.execPost p s
  | .join p => Sys2Proof.Machine.execJoin p s
  | .leave p => Sys2Proof.Machine.execLeave p s
  | .arrive p => Sys2Proof.Machine.execArrive p s
  | .withdraw p => Sys2Proof.Machine.execWithdraw p s
  | .breakBarrier p => Sys2Proof.Machine.execBreak p s
  | .rearm p => Sys2Proof.Machine.execRearm p s
  | .barrierQuery p => Sys2Proof.Machine.execBarrierQuery p s
  | .completion p => Sys2Proof.Machine.execCompletion p s
  | .overrun p v => Sys2Proof.Machine.execOverrun p v s
  | .pop p v => Sys2Proof.Machine.execPop p v s
  | .summaryClear p v => Sys2Proof.Machine.execSummaryClear p v s
  | .istatClear p v => Sys2Proof.Machine.execIstatClear p v s
  | .ienWrite p v => Sys2Proof.Machine.execIenWrite p v s
  | .keepaliveIntervalWrite p v => Sys2Proof.Machine.execKeepaliveIntervalWrite p v s
  | .waiterCapWrite p v => Sys2Proof.Machine.execWaiterCapWrite p v s
  | .prescaleWrite p v => Sys2Proof.Machine.execPrescaleWrite p v s
  | .ticklRead p => Sys2Proof.Machine.execTicklRead p s
  | .registerWrite p off v => Sys2Proof.Machine.execRegisterWrite p off v s
  | .softReset p v => Sys2Proof.Machine.execSoftReset p v s
  | .portReset p => Sys2Proof.Machine.execPortReset p s
  | .deviceReset => Sys2Proof.Machine.execDeviceReset s
  | .resetnRelease sup => Sys2Proof.Machine.execResetnRelease sup s
  | .tick => Sys2Proof.Machine.execTick s
  | .waitExpiry => Sys2Proof.Machine.execWaitExpiry s
  | .leaseExpiry => Sys2Proof.Machine.execLeaseExpiry s
  | .keepaliveExpiry => Sys2Proof.Machine.execKeepaliveExpiry s
  | .lockVisit => Sys2Proof.Machine.execLockVisit s
  | .barrierVisit => Sys2Proof.Machine.execBarrierVisit s
  | .finalStep => Sys2Proof.Machine.execFinalStep s
  | .cmdWrite p v => Sys2Proof.Machine.execCmdWrite p v s
  | .prstnRelease p => Sys2Proof.Machine.execPrstnRelease p s

end Sys2Proof.Machine
end

