-- ==== Sys2Proof/Safety.lean ====
section
/-! DEFINITION. What a state of a sound run satisfies: the conditions the rules say the blocks keep in every event, each
over one kind of state, and the frames statements use. The conditions are over every state, reachable or not. -/

namespace Sys2Proof.Machine

/-! ### The sweep engine and the port states (R132, R133) -/

/-- The port the engine is sweeping, if it is BUSY. -/
def Engine.port : Engine → Option Port
  | .idle => none
  | .busy p _ => some p

/-- R132, R133: a port is SWEEPING exactly when the engine sweeps it; the departure queue holds each PENDING_SWEEP port
once and no other; it is empty while the engine is IDLE. -/
def SweepQueueSound (s : State) : Prop :=
  (∀ p : Port, (s.session p).state = .sweeping ↔ s.engine.port = some p) ∧
  (∀ p : Port, (s.session p).state = .pendingSweep ↔ p ∈ s.departureQueue) ∧
  s.departureQueue.Nodup ∧
  (s.engine = .idle → s.departureQueue = [])

/-! ### Barriers (R95) -/

/-- R95: the member list has no duplicates and at most 8 requesters; the arrived set is a subset of it; the state is
GATHERING exactly when the arrived set is not empty; a BROKEN barrier has a member; a GATHERING barrier has a member that
has not arrived. -/
def Barrier.Sound (x : Barrier) : Prop :=
  x.members.Nodup ∧ x.members.length ≤ Config.barrierMembers ∧ x.arrived.Nodup ∧
  (∀ r ∈ x.arrived, r ∈ x.members) ∧
  (x.state = .gathering ↔ x.arrived ≠ []) ∧
  (x.state = .broken → x.members ≠ []) ∧
  (x.arrived ≠ [] → ∃ r ∈ x.members, r ∉ x.arrived)

/-- Every barrier is sound (R95). -/
def BarriersSound (s : State) : Prop := ∀ b : BarrierIndex, (s.barrier b).Sound

/-! ### The lock table (R2, R4, R6, R8, R28, R29) -/

/-- R4: no exclusive holder beside shared holders, and no shared holder twice. -/
def LockEntry.HoldersSound (e : LockEntry) : Prop :=
  (e.exclusiveHolder ≠ none → e.sharedHolders = []) ∧ e.sharedHolders.Nodup

/-- R6, R28, R29 at lock `i`: a queue stands only behind a holder; every record names the lock; no requester waits twice on
the lock, or holds it and waits on it; each record holds the reservations its grant needs. -/
def LockEntry.QueueSound (e : LockEntry) (i : LockIndex) : Prop :=
  (e.queue ≠ [] → e.noHolder = false) ∧
  (∀ w ∈ e.queue, w.lock = i ∧ e.heldBy w.requester = false ∧ w.reservations = reservationsNeeded e w.mode) ∧
  (e.queue.map (·.requester)).Nodup

/-- R8, R15: what a FREE lock holds. -/
def LockEntry.FreeSound (e : LockEntry) : Prop :=
  e.state = .free →
    e.noHolder = true ∧ e.queue = [] ∧ e.mark = .none ∧ e.kind = .exclusive ∧ e.leasePeriod = 0 ∧ e.allocator = none

/-- R2: what a fixed lock holds. -/
def LockEntry.FixedSound (e : LockEntry) (i : LockIndex) : Prop :=
  i.val < Config.fixedLocks → e.state = .allocated ∧ e.generation = 0 ∧ e.allocator = none

/-- R8: the free-lock list holds exactly the FREE locks, each once. -/
def FreeListSound (s : State) : Prop :=
  s.freeLocks.Nodup ∧ ∀ i : LockIndex, i ∈ s.freeLocks ↔ (s.lock i).state = .free

/-- R152, checks 3 and 4: the arguments of a command in flight are in range, and a command that is the supervisor's alone is
the supervisor's. -/
def RequestsChecked (s : State) : Prop :=
  ∀ p : Port, ∀ f ∈ (s.unit p).inFlight,
    argsInRange f.command f.args = true ∧ (f.command.supervisorOnly = true → p = s.supervisor)

/-- R152, check 2: a command other than ATTACH that waits for its owner, with no departure of its port since the take, is
an ATTACHED port's. -/
def RequestsAttached (s : State) : Prop :=
  ∀ (p : Port) (c : Command) (a : Args),
    (s.unit p).inFlight = some ⟨c, a, .handed false⟩ → c ≠ .attach → s.attached p = true

/-- The lock table as R2, R4, R6, R8, R28 and R29 say it is kept. -/
def LockTableSound (s : State) : Prop :=
  FreeListSound s ∧
  ∀ i : LockIndex,
    (s.lock i).HoldersSound ∧ (s.lock i).QueueSound i ∧ (s.lock i).FreeSound ∧ (s.lock i).FixedSound i

/-! ### Windows, inboxes and summaries (R23, R74, R88, R126, R129) -/

/-- A port that is not ATTACHED has an empty inbox (R88); no port is in its own summary (R129); the waiter cap is at most
24 (R23). -/
def PortsSound (s : State) : Prop :=
  ∀ p : Port,
    (s.attached p = false → (s.inbox p).entries = []) ∧
    (s.session p).summary.getLsbD p.val = false ∧
    (s.pool p).cap ≤ Config.waiterRecords

/-- R126: while PRSTn of a port is low the port is not ATTACHED and its window is at its port-reset values. -/
def HeldPortsSound (s : State) : Prop :=
  ∀ p : Port, s.held p = true →
    s.attached p = false ∧ s.unit p = .atReset ∧
    (s.interface p).args = ⟨0, 0, 0, 0⟩ ∧ (s.interface p).enables = 0 ∧ (s.interface p).snapshot = 0 ∧
    (s.session p).summary = 0 ∧ (s.session p).keepalive = 0 ∧ (s.pool p).cap = Config.resetCap

/-- R163: while RESETn is low every state is at its device-reset value. That these values include the supervisor identity P0
(log 2), the tick length 100 (log 6) and the bus word 0 (log 8) is the model's choice. -/
def DeviceResetHeld (s : State) : Prop :=
  s.resetLow = true → s = { State.reset with prstLow := s.prstLow, pending := s.pending }

/-! ### What a departed port still has (R112, R135, R140) -/

/-- Nothing of port `p` stands at the lock: no record, no hold, no allocation. -/
def LockEntry.clearOf (e : LockEntry) (p : Port) : Prop :=
  (∀ w ∈ e.queue, w.requester.port ≠ p) ∧ (∀ r ∈ e.exclusiveHolder, r.port ≠ p) ∧
  (∀ r ∈ e.sharedHolders, r.port ≠ p) ∧ e.allocator ≠ some p

/-- Nothing of port `p` stands at the barrier: no member, no arrival. -/
def Barrier.clearOf (x : Barrier) (p : Port) : Prop :=
  (∀ r ∈ x.members, r.port ≠ p) ∧ ∀ r ∈ x.arrived, r.port ≠ p

/-- R135: the lock has had its visit when the sweep stands at the position. -/
def Position.pastLock : Position → LockIndex → Prop
  | .locks i, j => j.val < i.val
  | .barriers _, _ => True
  | .final, _ => True

/-- R135: the barrier has had its visit when the sweep stands at the position. -/
def Position.pastBarrier : Position → BarrierIndex → Prop
  | .locks _, _ => False
  | .barriers b, c => c.val < b.val
  | .final, _ => True

/-- R112, R140, R142: a DETACHED port has nothing at any lock or barrier, and a port being swept has nothing at those its
sweep has visited. -/
def SweptClear (s : State) : Prop :=
  (∀ p : Port, (s.session p).state = .detached →
    (∀ i : LockIndex, (s.lock i).clearOf p) ∧ ∀ b : BarrierIndex, (s.barrier b).clearOf p) ∧
  ∀ (p : Port) (pos : Position), s.engine = .busy p pos →
    (∀ i : LockIndex, pos.pastLock i → (s.lock i).clearOf p) ∧
    ∀ b : BarrierIndex, pos.pastBarrier b → (s.barrier b).clearOf p

/-! ### The deadline list (R55, R56) -/

/-- R56: `x` may stand before `y`: no entry not yet due stands before one that is due, and entries not yet due stand in
non-decreasing forward distance. -/
def Deadline.before (now : Ticks) (x y : Deadline) : Prop :=
  (y.due = true → x.due = true) ∧
  (x.due = false → y.due = false → forwardDistance now x.tick ≤ forwardDistance now y.tick)

/-- R55, R56: the list is in its order, and an entry not yet due lies 1 to 65 535 ticks ahead. -/
def DeadlinesOrdered (s : State) : Prop :=
  s.deadlines.Pairwise (Deadline.before s.tick) ∧
  ∀ d ∈ s.deadlines, d.due = false →
    1 ≤ forwardDistance s.tick d.tick ∧ forwardDistance s.tick d.tick ≤ 65535

/-- The object has a limit (R56): a waiter record is in its lock's queue; the lock has an exclusive hold and a lease period;
the port is ATTACHED with a keepalive interval. -/
def State.limits (s : State) : DeadlineObject → Prop
  | .wait i r => ∃ w ∈ (s.lock i).queue, w.requester = r
  | .lease i => (s.lock i).exclusiveHolder ≠ none ∧ (s.lock i).leasePeriod ≠ 0
  | .keepalive p => s.attached p = true ∧ (s.session p).keepalive ≠ 0

/-- R56: no object has two entries, every entry's object has a limit, and every leased exclusive hold and every ATTACHED
port with a keepalive interval has its entry. -/
def DeadlinesMatch (s : State) : Prop :=
  (s.deadlines.map (·.object)).Nodup ∧
  (∀ d ∈ s.deadlines, s.limits d.object) ∧
  (∀ i : LockIndex, s.limits (.lease i) → ∃ d ∈ s.deadlines, d.object = .lease i) ∧
  ∀ p : Port, s.limits (.keepalive p) → ∃ d ∈ s.deadlines, d.object = .keepalive p

/-! ### The accounts of the waiter pool and the inboxes (R21, R22, R77) -/

/-- Every waiter record in use, lock by lock. -/
def State.records (s : State) : List WaiterRecord := (List.finRange 64).flatMap fun i => (s.lock i).queue

/-- R21, R22: the records in use and the free ones number 24, and each port's count is the number of its records. -/
def PoolCounts (s : State) : Prop :=
  s.records.length + s.freeRecords = Config.waiterRecords ∧
  ∀ p : Port, (s.pool p).count = (s.records.filter fun w => w.requester.port == p).length

/-- R27: the records of one port that are in use carry distinct tickets. -/
def TicketsDistinct (s : State) : Prop :=
  ∀ p : Port, ((s.records.filter fun w => w.requester.port == p).map (·.ticket)).Nodup

/-- R77: the reservations of port `p` that its waiter records hold. -/
def State.recordReservations (s : State) (p : Port) : Nat :=
  ((s.records.filter fun w => w.requester.port == p).map (·.reservations)).sum

/-- R77: the lease reservations of port `p`: one for each of its exclusive holds of a lock with a lease period. -/
def State.leaseReservations (s : State) (p : Port) : Nat :=
  (List.finRange 64).countP fun i =>
    (s.lock i).leasePeriod != 0 && (s.lock i).exclusiveHolder.any fun r => r.port == p

/-- R77, R97: the reservations of port `p`'s arrivals: one for each of its requesters in an arrived set. -/
def State.arrivalReservations (s : State) (p : Port) : Nat :=
  ((List.finRange 8).map fun b => (s.barrier b).arrived.countP fun r => r.port == p).sum

/-- R77: each port's reservation count is the sum of the reservations its objects hold, and occupied entries plus
reservations are at most 16. -/
def InboxRoom (s : State) : Prop :=
  ∀ p : Port,
    (s.inbox p).reserved = s.recordReservations p + s.leaseReservations p + s.arrivalReservations p ∧
    (s.inbox p).entries.length + (s.inbox p).reserved ≤ Config.inboxEntries

/-! ### What statements say of a command's outcome -/

/-- The command with which the owner takes port `p`'s request for `c` (R153). -/
def Command.request (c : Command) (p : Port) : Instr :=
  match c with
  | .attach => .attach p
  | .detach => .detach p
  | .touch => .touch p
  | .forceDetach => .forceDetach p
  | .alloc => .alloc p
  | .retire => .retire p
  | .defineFixed => .defineFixed p
  | .query => .query p
  | .acquire => .acquire p
  | .release => .release p
  | .downgrade => .downgrade p
  | .renew => .renew p
  | .cancel => .cancel p
  | .post => .post p
  | .join => .join p
  | .leave => .leave p
  | .arrive => .arrive p
  | .withdraw => .withdraw p
  | .breakBarrier => .breakBarrier p
  | .rearm => .rearm p
  | .barrierQuery => .barrierQuery p

/-- Port `p` is ATTACHED and its command unit has handed command `c` with the arguments `a` to the owner, with no departure
since (R149, R153). -/
def Requests (s : State) (p : Port) (c : Command) (a : Args) : Prop :=
  (s.unit p).inFlight = some ⟨c, a, .handed false⟩ ∧ s.attached p = true

/-- The handle is current and names an allocated lock (R7). -/
def Valid (s : State) (h : Handle) : Prop :=
  (s.lock h.index).generation = h.generation ∧ (s.lock h.index).state = .allocated

/-- From `s` to `t`, port `p`'s interface has become `x`, and every other port's is as it was. -/
def OnlyInterface (p : Port) (x : PortInterface) (s t : State) : Prop :=
  t.interface p = x ∧ ∀ q : Port, q ≠ p → t.interface q = s.interface q

/-- From `s` to `t`, port `p`'s command unit has become `x`, and every other port's is as it was. -/
def OnlyUnit (p : Port) (x : CommandUnit) (s t : State) : Prop :=
  t.unit p = x ∧ ∀ q : Port, q ≠ p → t.unit q = s.unit q

/-- From `s` to `t`, lock entry `i` has become `x`, and every other lock entry is as it was. -/
def OnlyLock (i : LockIndex) (x : LockEntry) (s t : State) : Prop :=
  t.lock i = x ∧ ∀ j : LockIndex, j ≠ i → t.lock j = s.lock j

/-- From `s` to `t`, the pool's record of port `p` has become `x`, and every other port's is as it was. -/
def OnlyPool (p : Port) (x : PoolPort) (s t : State) : Prop :=
  t.pool p = x ∧ ∀ q : Port, q ≠ p → t.pool q = s.pool q

/-- From `s` to `t`, port `p`'s inbox has become `x`, and every other port's is as it was. -/
def OnlyInbox (p : Port) (x : Inbox) (s t : State) : Prop :=
  t.inbox p = x ∧ ∀ q : Port, q ≠ p → t.inbox q = s.inbox q

/-- From `s` to `t`, barrier entry `b` has become `x`, and every other barrier entry is as it was. -/
def OnlyBarrier (b : BarrierIndex) (x : Barrier) (s t : State) : Prop :=
  t.barrier b = x ∧ ∀ c : BarrierIndex, c ≠ b → t.barrier c = s.barrier c

/-- From `s` to `t`, port `p`'s session record has become `x`, and every other port's is as it was. -/
def OnlySession (p : Port) (x : Session) (s t : State) : Prop :=
  t.session p = x ∧ ∀ q : Port, q ≠ p → t.session q = s.session q

/-- Port `p`'s command in flight has the answer `a` on its way back (R153); the rest of its command unit and the other
command units are as they were. That it comes back after the deliveries of the same event is the model's choice (log 19). -/
def AnsweredWith (p : Port) (a : Answer) (s t : State) : Prop :=
  OnlyUnit p { s.unit p with inFlight := (s.unit p).inFlight.map fun f => { f with progress := .answered a } } s t

/-- The request of port `p` is answered with `a`, and nothing else changes. -/
def OnlyAnswers (p : Port) (a : Answer) (s t : State) : Prop := AnsweredWith p a s t ∧ t = { s with units := t.units }

/-- Grant evaluation at lock `i` has run on `u` as part of the event (R38), and the request of port `p` in `s` is answered
with `a`. -/
def EvaluatedAndAnswered (u : State) (i : LockIndex) (p : Port) (a : Answer) (s t : State) : Prop :=
  t = { u.evaluate i with units := t.units } ∧ AnsweredWith p a s t

/-- R30: the ACQUIRE of handle `h` in mode `m` by requester `r` passes the four checks. -/
def AcquirePasses (s : State) (r : Requester) (h : Handle) (m : Mode) : Prop :=
  Valid s h ∧ ¬(m = .shared ∧ (s.lock h.index).kind = .exclusive) ∧
  (s.lock h.index).exclusiveHolder ≠ some r ∧ r ∉ (s.lock h.index).sharedHolders ∧
  ∀ w ∈ (s.lock h.index).queue, w.requester ≠ r

/-- R31: mode `m` is compatible with the lock's present holders. -/
def LockEntry.Accepts (e : LockEntry) (m : Mode) : Prop :=
  e.exclusiveHolder = none ∧ (m = .exclusive → e.sharedHolders = [])

/-- R32, R65: a hold of mode `m` of this lock runs under a lease. -/
def LockEntry.Leases (e : LockEntry) (m : Mode) : Prop := m = .exclusive ∧ e.leasePeriod ≠ 0

/-- R32, R41, R43: from `e` to `f` requester `r` has become a holder in mode `m`, and the mark is cleared; the shared
holders are a set (log 13). -/
def GrantedIn (r : Requester) (m : Mode) (e f : LockEntry) : Prop :=
  f = { e with
    exclusiveHolder := if m = .exclusive then some r else e.exclusiveHolder
    sharedHolders := f.sharedHolders
    mark := .none } ∧
  ∀ q : Requester, q ∈ f.sharedHolders ↔ q ∈ e.sharedHolders ∨ (m = .shared ∧ q = r)

/-- R25: record `w` of lock `i` has left the queue of `s`, is free, and its port's count has fallen by one; `entries` and
`reserved` are what its port's inbox then holds, and its wait deadline is gone. Nothing else has changed. -/
def RecordFreed (i : LockIndex) (w : WaiterRecord) (entries : List InboxEntry) (reserved : Nat) (s t : State) : Prop :=
  t = { s with
    locks := t.locks, poolPorts := t.poolPorts, inboxes := t.inboxes
    freeRecords := s.freeRecords + 1
    deadlines := s.deadlines.filter fun d => d.object != .wait i w.requester } ∧
  OnlyLock i { s.lock i with queue := (s.lock i).queue.erase w } s t ∧
  OnlyPool w.requester.port { s.pool w.requester.port with count := (s.pool w.requester.port).count - 1 } s t ∧
  OnlyInbox w.requester.port ⟨entries, reserved⟩ s t

/-- R122: port `p` has departed with cause `c`, as far as the session records, the sweep engine, the inboxes and the
deadline list `d` before it go. -/
def DepartedWith (p : Port) (c : Cause) (d : List Deadline) (s t : State) : Prop :=
  OnlySession p { s.session p with lastCause := c, state := if s.engine = .idle then .sweeping else .pendingSweep } s t ∧
  (s.engine = .idle → t.engine = .busy p (.locks 0) ∧ t.departureQueue = s.departureQueue) ∧
  (s.engine ≠ .idle → t.engine = s.engine ∧ t.departureQueue = s.departureQueue ++ [p]) ∧
  OnlyInbox p { s.inbox p with entries := [] } s t ∧
  t.deadlines = d.filter fun x => x.object != .keepalive p

/-- R115, R126, R156: the command unit `v` is `u` after a departure of its port: a command in flight that its owner has not
taken is marked, and nothing else changes. -/
def MarkedDeparted (u v : CommandUnit) : Prop :=
  (∀ c a d, u.inFlight = some ⟨c, a, .handed d⟩ → v = { u with inFlight := some ⟨c, a, .handed true⟩ }) ∧
  ((∀ c a d, u.inFlight ≠ some ⟨c, a, .handed d⟩) → v = u)

/-- R97, R100, R104: each requester of the list, in its order, has had its reservation turned into an entry with this body
if its port is ATTACHED, or dropped if it is not. -/
def DeliveredTo (body : EntryBody) (rs : List Requester) (s t : State) : Prop :=
  ∀ q : Port, t.inbox q =
    { entries := (s.inbox q).entries ++
        (if s.attached q then (rs.filter fun r => r.port == q).map fun r => ⟨r.agent, body⟩ else [])
      reserved := (s.inbox q).reserved - (rs.filter fun r => r.port == q).length }

/-- R72, R149: the deadline list after the renewal of port `p`'s keepalive. -/
def State.renewedDeadlines (s : State) (p : Port) : List Deadline :=
  if s.attached p = true ∧ (s.session p).keepalive ≠ 0 then
    placeDeadline s.tick ⟨.keepalive p, s.tick + (s.session p).keepalive.setWidth 32, false⟩
      (s.deadlines.filter fun d => d.object != .keepalive p)
  else s.deadlines

/-- R100: barrier `b`, whose entry is `x` after the removal of a leaving member, opens. -/
def OpenedFrom (b : BarrierIndex) (x : Barrier) (s t : State) : Prop :=
  OnlyBarrier b { x with phase := x.phase + 1, arrived := [], state := .idle } s t ∧
  DeliveredTo (.barrierOpen b (x.phase + 1)) (x.members.filter fun r => x.arrived.contains r) s t

/-- R104: the round of barrier `b`, whose entry is `x` after the removal of departed members, breaks with cause port
`c`. -/
def BrokenFrom (b : BarrierIndex) (x : Barrier) (c : Port) (s t : State) : Prop :=
  OnlyBarrier b { x with phase := x.phase + 1, arrived := [], state := if x.members = [] then .idle else .broken } s t ∧
  DeliveredTo (.barrierBroken b (x.phase + 1) c) (x.members.filter fun r => x.arrived.contains r) s t

/-- R125: the window of port `p` after a port reset: the interface, the command unit, the cap, and of the session record
the summary and the interval. The session record is otherwise `r`. -/
def WindowReset (p : Port) (r : Session) (s t : State) : Prop :=
  OnlyInterface p { s.interface p with args := ⟨0, 0, 0, 0⟩, enables := 0, snapshot := 0 } s t ∧
  OnlyUnit p ⟨none, 0, 0, 0, 0, 0, false, false⟩ s t ∧
  OnlyPool p { s.pool p with cap := 6 } s t ∧
  OnlySession p { r with summary := 0, keepalive := 0 } s t

/-- R125: port `p` has been reset: it has departed with cause PORT_RESET if it was ATTACHED, its window is at its port-reset
values, and nothing else has changed but, it may be, the level of a PRSTn pin. -/
def PortWasReset (p : Port) (s t : State) : Prop :=
  ∃ u : State,
    (s.attached p = false → u = s) ∧
    (s.attached p = true →
      DepartedWith p .portReset s.deadlines s u ∧ (∀ q : Port, q ≠ p → u.unit q = s.unit q) ∧
      u = { s with
        units := u.units, sessions := u.sessions, engine := u.engine, departureQueue := u.departureQueue
        inboxes := u.inboxes, deadlines := u.deadlines }) ∧
    WindowReset p (u.session p) u t ∧
    t = { u with
      interfaces := t.interfaces, units := t.units, poolPorts := t.poolPorts, sessions := t.sessions
      prstLow := t.prstLow }

/-- The port that issues a command, where a port does: its host's window writes and reads, the requests of its command unit,
and its own PRSTn pin. -/
def issuer : Instr → Option Port
  | .attach p | .detach p | .touch p | .forceDetach p | .alloc p | .retire p | .defineFixed p | .query p => some p
  | .acquire p | .release p | .downgrade p | .renew p | .cancel p | .post p => some p
  | .join p | .leave p | .arrive p | .withdraw p | .breakBarrier p | .rearm p | .barrierQuery p => some p
  | .completion p | .overrun p _ | .pop p _ | .summaryClear p _ | .istatClear p _ | .ienWrite p _ => some p
  | .keepaliveIntervalWrite p _ | .waiterCapWrite p _ | .prescaleWrite p _ | .ticklRead p | .registerWrite p _ _ => some p
  | .softReset p _ | .portReset p | .cmdWrite p _ | .prstnRelease p => some p
  | .deviceReset | .resetnRelease _ | .tick | .waitExpiry | .leaseExpiry | .keepaliveExpiry => none
  | .lockVisit | .barrierVisit | .finalStep => none

end Sys2Proof.Machine
end

