-- ==== Sys2Proof/WellFormed.lean ====
section
/-! DEFINITION. Which terms of `Instr` are an instance of their row. The types of the operands already hold every range;
two rows say more about their operands. `exec` gives an ill-formed term the meaning of the bus write it is, so nothing
rests on this check but the reading of the rows. -/

namespace Sys2Proof

/-- R165: a word whose write has no behaviour of its own, so that a write either stores the value (the argument words
02h to 05h) or is ignored (the read-only words). The others are CMD, POP, DSUM, IEN, ISTAT, KALIVE, WCAP, PCTL and
PRESCALE. -/
def Offset.plain (off : Offset) : Bool :=
  !([0x06, 0x11, 0x12, 0x13, 0x14, 0x15, 0x16, 0x17, 0x1A] : List Nat).contains off.val

/-- REGISTER_WRITE is a write to a plain word (R165), and SOFT_RESET a write of a one to bit 0 of PCTL (R125). -/
def Instr.wellFormed : Instr → Bool
  | .registerWrite _ off _ => off.plain
  | .softReset _ v => v.getLsbD 0
  | .attach _ | .detach _ | .touch _ | .forceDetach _ | .alloc _ | .retire _ | .defineFixed _ | .query _ => true
  | .acquire _ | .release _ | .downgrade _ | .renew _ | .cancel _ | .post _ => true
  | .join _ | .leave _ | .arrive _ | .withdraw _ | .breakBarrier _ | .rearm _ | .barrierQuery _ => true
  | .completion _ | .overrun _ _ | .pop _ _ | .summaryClear _ _ | .istatClear _ _ | .ienWrite _ _ => true
  | .keepaliveIntervalWrite _ _ | .waiterCapWrite _ _ | .prescaleWrite _ _ | .ticklRead _ => true
  | .portReset _ | .deviceReset | .resetnRelease _ | .tick | .waitExpiry | .leaseExpiry | .keepaliveExpiry => true
  | .lockVisit | .barrierVisit | .finalStep | .cmdWrite _ _ | .prstnRelease _ => true

end Sys2Proof
end

