-- ==== Sys2Proof/Certificates/Slice0/Obligations.lean ====
section
/-! DEFINITION. The statements for the provers. Each says what it formalises: rules of spec/ by number, and where it rests
on a choice of the model, the log entry. Where a statement names a premise such as `LockTableSound`, that is an invariant
with a statement of its own. -/

open Sys2Proof Sys2Proof.Machine

/-! ### The step -/

/-- One step runs the command at the front of the queue on the state with the rest of the queue; on an empty queue the block
idles (log 1). -/
def Obligations.StepRunsFrontCommand : Prop :=
  (∀ (c : Instr) (rest : List Instr) (s : State), s.pending = c :: rest → step s = exec c { s with pending := rest }) ∧
  ∀ s : State, s.pending = [] → step s = .next s

/-- No command stops the block, and none touches the queue of the commands that wait (log 1; INVENTORY.md, "Faults"). -/
def Obligations.EveryCommandAnswersNext : Prop :=
  ∀ (c : Instr) (s : State), ∃ t, exec c s = .next t ∧ t.pending = s.pending

/-- The model's choice (log 4): an event for which the state holds nothing to take leaves the state as it is: a request no
owner has been handed, an outcome none is on its way for, an expiry that is not at the head of the list or not due, a visit or
a final step at another position. -/
def Obligations.NothingToTakeChangesNothing : Prop :=
  ∀ s : State,
    (∀ (c : Command) (p : Port), (∀ a d, (s.unit p).inFlight ≠ some ⟨c, a, .handed d⟩) → exec (c.request p) s = .next s) ∧
    (∀ p : Port, (∀ c a r, (s.unit p).inFlight ≠ some ⟨c, a, .answered r⟩) → exec (.completion p) s = .next s) ∧
    ((∀ i r k rest, s.deadlines ≠ ⟨.wait i r, k, true⟩ :: rest) → exec .waitExpiry s = .next s) ∧
    ((∀ i k rest, s.deadlines ≠ ⟨.lease i, k, true⟩ :: rest) → exec .leaseExpiry s = .next s) ∧
    ((∀ p k rest, s.deadlines ≠ ⟨.keepalive p, k, true⟩ :: rest) → exec .keepaliveExpiry s = .next s) ∧
    ((∀ p i, s.engine ≠ .busy p (.locks i)) → exec .lockVisit s = .next s) ∧
    ((∀ p b, s.engine ≠ .busy p (.barriers b)) → exec .barrierVisit s = .next s) ∧
    ((∀ p, s.engine ≠ .busy p .final) → exec .finalStep s = .next s)

/-! ### What every step keeps -/

/-- R132, R133: the conditions on the port states, the sweep engine and the departure queue are kept by every step. -/
def Obligations.SweepQueueIsKept : Prop :=
  ∀ s t : State, SweepQueueSound s → step s = .next t → SweepQueueSound t

/-- R95: the conditions on every barrier are kept by every step. -/
def Obligations.BarriersAreKept : Prop :=
  ∀ s t : State, BarriersSound s → step s = .next t → BarriersSound t

/-- R152: what a command unit hands to an owner has passed the common checks, and every step keeps it so. Check 1 is the type
of the command in flight. Checks 3 and 4 hold of every command in flight; the premise says that while RESETn is low nothing is
in flight (R163), since the supervisor identity is sampled at the release (R127). It also holds the model's values of
logs 2, 6 and 8 there, on which nothing here rests. Check 2 holds of every request its owner has not taken, as long as
its port has not departed since (the mark of log 7); the premise on the sweep says that no ATTACHED port is swept. -/
def Obligations.RequestsStayChecked : Prop :=
  ∀ s t : State, step s = .next t →
    (RequestsChecked s → DeviceResetHeld s → RequestsChecked t) ∧
    (RequestsAttached s → SweepQueueSound s → RequestsAttached t)

/-- R2, R4, R6, R8, R28, R29: the conditions on the lock entries and the free-lock list are kept by every step. -/
def Obligations.LockTableIsKept : Prop :=
  ∀ s t : State, LockTableSound s → RequestsChecked s → step s = .next t → LockTableSound t

/-- R23, R88, R126, R129, R163: a port that is not ATTACHED has an empty inbox, no port is in its own summary, and no cap
passes 24; while PRSTn of a port is low the port is not ATTACHED and its window is at its port-reset values, and while RESETn is
low every state is at its device-reset value. Every step keeps this; the premise on the sweep says that a final step meets no
ATTACHED port. That the device-reset values include the supervisor identity P0 (log 2), the tick length 100 (log 6) and the bus
word 0 (log 8) is the model's choice; the spec gives none of these three. -/
def Obligations.PortsAndResetsAreKept : Prop :=
  ∀ s t : State, step s = .next t →
    (PortsSound s → SweepQueueSound s → PortsSound t) ∧
    (HeldPortsSound s → DeviceResetHeld s → HeldPortsSound t ∧ DeviceResetHeld t)

/-- R112, R135, R140, R142: a DETACHED port has nothing at any lock or barrier, and a port being swept has nothing at those
its sweep has visited; every step keeps this. -/
def Obligations.SweptPortsStayClear : Prop :=
  ∀ s t : State, SweptClear s → SweepQueueSound s → BarriersSound s → step s = .next t → SweptClear t

/-- R55, R56: the deadline list keeps its order in every step. That a due entry is told from one far ahead by a mark is the
model's (log 5). -/
def Obligations.DeadlineOrderIsKept : Prop :=
  ∀ s t : State, DeadlinesOrdered s → step s = .next t → DeadlinesOrdered t

/-- R56: the deadline list holds an entry for each leased exclusive hold and each ATTACHED port with an interval, for no
object twice, and for no object that is gone; every step keeps this. -/
def Obligations.DeadlinesMatchIsKept : Prop :=
  ∀ s t : State, DeadlinesMatch s → LockTableSound s → SweepQueueSound s → step s = .next t → DeadlinesMatch t

/-- R21, R22, R27: the records in use and the free ones number 24, each port's count is the number of its records, and the
tickets of one port's records are distinct; every step keeps this. -/
def Obligations.WaiterPoolIsKept : Prop :=
  ∀ s t : State, PoolCounts s → TicketsDistinct s → step s = .next t → PoolCounts t ∧ TicketsDistinct t

/-- R77: each port's reservation count is the sum of what its records, leased holds and arrivals hold, and occupied entries
plus reservations stay at or below 16; every step keeps this. -/
def Obligations.InboxRoomIsKept : Prop :=
  ∀ s t : State, InboxRoom s → LockTableSound s → BarriersSound s → DeadlinesMatch s → step s = .next t → InboxRoom t

/-- R10, R21 to R23, R26, R54, R60, R74, R77, R95, R113, R132, R147, R148: what device reset leaves, and that it meets every
invariant above. The supervisor identity before the first release (log 2), the tick length with no tick in progress (log 6), the
bus word (log 8) and the level of the PRSTn pins (log 12) are the model's: no clause here gives a value for them, but that
`DeviceResetHeld` compares State.reset with itself. -/
def Obligations.ResetIsSound : Prop :=
  let s := State.reset
  (∀ i : LockIndex, s.lock i = ⟨if i.val < 8 then .allocated else .free, .exclusive, 0, none, 0, none, [], .none, []⟩) ∧
  s.freeLocks.map (·.val) = (List.range 56).map (· + 8) ∧
  s.freeRecords = 24 ∧ s.deadlines = [] ∧ s.tick = 0 ∧ s.prescale = 100 ∧ s.engine = .idle ∧ s.departureQueue = [] ∧
  (∀ b : BarrierIndex, s.barrier b = ⟨.idle, 0, [], []⟩) ∧
  (∀ p : Port, s.pool p = ⟨0, 0, 6⟩ ∧ s.inbox p = ⟨[], 0⟩ ∧ s.session p = ⟨.detached, 0, .none, 0, 0⟩ ∧
    s.unit p = ⟨none, 0, 0, 0, 0, 0, false, false⟩ ∧ (s.interface p).args = ⟨0, 0, 0, 0⟩ ∧
    (s.interface p).enables = 0 ∧ (s.interface p).snapshot = 0) ∧
  SweepQueueSound s ∧ BarriersSound s ∧ RequestsChecked s ∧ RequestsAttached s ∧ LockTableSound s ∧ PortsSound s ∧ HeldPortsSound s ∧
  DeviceResetHeld s ∧ SweptClear s ∧ DeadlinesOrdered s ∧ DeadlinesMatch s ∧ PoolCounts s ∧ TicketsDistinct s ∧ InboxRoom s

/-! ### The command unit -/

/-- R149, R152, R154, R170: a write to CMD with BUSY clear takes the command: bits 7:0 become the last code, the completion
flag is cleared, the keepalive is renewed (R72), the argument words are captured, and the common checks are run in their
order; a refusal completes at once. Nothing else changes. -/
def Obligations.CmdWriteTakesCommand : Prop :=
  ∀ (p : Port) (v : Word) (s : State), s.resetLow = false → s.held p = false → (s.unit p).inFlight = none →
    let args := (s.interface p).args
    let code := v.extractLsb' 0 8
    let refused (rcode : Word) : CommandUnit :=
      { s.unit p with lastCode := code, rcode := rcode, res0 := 0, res1 := 0, res2 := 0, completion := true }
    ∃ t, exec (.cmdWrite p v) s = .next t ∧ t = { s with units := t.units, deadlines := s.renewedDeadlines p } ∧
      OnlyUnit p
        (match Command.ofCode code with
          | none => refused 0x10
          | some c =>
            if c ≠ .attach ∧ s.attached p = false then refused 0x12
            else if (c = .forceDetach ∨ c = .defineFixed) ∧ p ≠ s.supervisor then refused 0x14
            else if argsInRange c args = false then refused 0x11
            else
              { s.unit p with
                lastCode := code, completion := false, inFlight := some ⟨c, args, .handed false⟩ }) s t

/-- R150: a write to CMD with BUSY set is not taken: the overrun flag is set and nothing else changes. That the rows
CMD_WRITE and OVERRUN are the same bus write, which BUSY decides, is the model's reading (log 10). -/
def Obligations.CmdWriteWhileBusySetsOverrun : Prop :=
  ∀ (p : Port) (v : Word) (s : State), s.resetLow = false → s.held p = false → (s.unit p).inFlight ≠ none →
    exec (.cmdWrite p v) s = exec (.overrun p v) s ∧
    ∃ t, exec (.overrun p v) s = .next t ∧ t = { s with units := t.units } ∧
      OnlyUnit p { s.unit p with overrun := true } s t

/-- R154: the owner's outcome is posted: the code and the three words are written, BUSY is cleared and the completion flag is
set, whatever the port's state; nothing else changes. -/
def Obligations.CompletionPostsOutcome : Prop :=
  ∀ (p : Port) (s : State) (c : Command) (a : Args) (r : Answer),
    (s.unit p).inFlight = some ⟨c, a, .answered r⟩ →
    ∃ t, exec (.completion p) s = .next t ∧ t = { s with units := t.units } ∧
      OnlyUnit p
        { s.unit p with
          inFlight := none, rcode := r.code.toWord, res0 := r.res0, res1 := r.res1, res2 := r.res2, completion := true } s t

/-- R36, R91, R94, R115, R156, R157: an owner that takes a request after its port has departed refuses it before any check of
its own: the command completes DEPARTED and nothing else changes. -/
def Obligations.DepartedRequestsAreRefused : Prop :=
  ∀ (c : Command) (p : Port) (s : State) (a : Args) (d : Bool),
    (s.unit p).inFlight = some ⟨c, a, .handed d⟩ → (d = true ∨ (c ≠ .attach ∧ s.attached p = false)) →
    ∃ t, exec (c.request p) s = .next t ∧ OnlyAnswers p ⟨.departed, 0, 0, 0⟩ s t

/-! ### The lock table: locks as objects (chapter 1) -/

/-- R13: ALLOC takes the head of the free-lock list, or completes NO_FREE_LOCK on an empty one. -/
def Obligations.AllocTakesHead : Prop :=
  ∀ (p : Port) (s : State) (a : Args), Requests s p .alloc a →
    (s.freeLocks = [] → ∃ t, exec (.alloc p) s = .next t ∧ OnlyAnswers p ⟨.noFreeLock, 0, 0, 0⟩ s t) ∧
    ∀ (i : LockIndex) (rest : List LockIndex), s.freeLocks = i :: rest →
      ∃ t, exec (.alloc p) s = .next t ∧
        t = { s with units := t.units, locks := t.locks, freeLocks := rest } ∧
        OnlyLock i
          { s.lock i with state := .allocated, kind := a.allocKind, leasePeriod := a.arg1, allocator := some p } s t ∧
        AnsweredWith p ⟨.ok, Handle.toWord ⟨i, (s.lock i).generation⟩, 0, 0⟩ s t

/-- R14, R15: RETIRE makes its four checks in their order; one that passes makes the lock FREE, moves its generation on, and
appends its index to the free-lock list. -/
def Obligations.RetireFreesLock : Prop :=
  ∀ (p : Port) (s : State) (a : Args), Requests s p .retire a →
    let i := a.handle.index
    let e := s.lock i
    ∃ t, exec (.retire p) s = .next t ∧
      if a.handle.generation ≠ e.generation then OnlyAnswers p ⟨.staleHandle, 0, 0, 0⟩ s t
      else if e.state = .free then OnlyAnswers p ⟨.notAllocated, 0, 0, 0⟩ s t
      else if i.val < 8 then OnlyAnswers p ⟨.fixedLock, 0, 0, 0⟩ s t
      else if e.allocator ≠ some p ∧ e.allocator ≠ none ∧ p ≠ s.supervisor then OnlyAnswers p ⟨.notOwner, 0, 0, 0⟩ s t
      else if e.exclusiveHolder ≠ none ∨ e.sharedHolders ≠ [] ∨ e.queue ≠ [] then OnlyAnswers p ⟨.inUse, 0, 0, 0⟩ s t
      else
        t = { s with units := t.units, locks := t.locks, freeLocks := s.freeLocks ++ [i] } ∧
        OnlyLock i
          { e with
            state := .free, generation := e.generation + 1, mark := .none, leasePeriod := 0, kind := .exclusive,
            allocator := none } s t ∧
        AnsweredWith p ⟨.ok, 0, 0, 0⟩ s t

/-- R17: DEFINE_FIXED sets the kind and lease period of a fixed lock that has no holder and no waiter. The premises are the
common checks (R152) and what a fixed lock holds (R2). -/
def Obligations.DefineFixedSetsLock : Prop :=
  ∀ (p : Port) (s : State) (a : Args), Requests s p .defineFixed a → argsInRange .defineFixed a = true →
    let i := a.fixedIndex
    let e := s.lock i
    e.FixedSound i →
    ∃ t, exec (.defineFixed p) s = .next t ∧
      if e.exclusiveHolder ≠ none ∨ e.sharedHolders ≠ [] ∨ e.queue ≠ [] then OnlyAnswers p ⟨.inUse, 0, 0, 0⟩ s t
      else
        t = { s with units := t.units, locks := t.locks } ∧
        OnlyLock i { e with kind := a.fixedKind, leasePeriod := a.arg1 } s t ∧
        (t.lock i).state = .allocated ∧ (t.lock i).generation = 0 ∧ (t.lock i).allocator = none ∧
        AnsweredWith p ⟨.ok, BitVec.ofNat 16 (i.val * 1024), 0, 0⟩ s t

/-- R19, R172: QUERY validates the handle and reports the lock in its three words; nothing changes. The bounds on the lengths
are those R19 gives. -/
def Obligations.QueryReportsLock : Prop :=
  ∀ (p : Port) (s : State) (a : Args), Requests s p .query a →
    let e := s.lock a.handle.index
    e.queue.length ≤ 24 → e.sharedHolders.length ≤ 32 →
    ∃ t, exec (.query p) s = .next t ∧
      if a.handle.generation ≠ e.generation then OnlyAnswers p ⟨.staleHandle, 0, 0, 0⟩ s t
      else if e.state = .free then OnlyAnswers p ⟨.notAllocated, 0, 0, 0⟩ s t
      else
        ∃ r0 r2 : Word, OnlyAnswers p ⟨.ok, r0, e.leasePeriod, r2⟩ s t ∧
          r0.toNat = e.generation.toNat + 1024 * e.mark.code + 4096 * e.kind.code + 16384 ∧
          r2.toNat = e.queue.length + 32 * (match e.allocator with | some q => q.val | none => 4) +
            (match e.exclusiveHolder with
              | some r => 256 + 512 * r.agent.val + 4096 * r.port.val
              | none => 512 * e.sharedHolders.length)

/-! ### The lock table: holds and waits (chapters 2 and 3) -/

/-- R30: an ACQUIRE completes with the first refusal of its four checks, and a refusal changes nothing. -/
def Obligations.AcquireIsRefusedInOrder : Prop :=
  ∀ (p : Port) (s : State) (a : Args), Requests s p .acquire a →
    let e := s.lock a.handle.index
    let r : Requester := ⟨p, a.lockAgent⟩
    ¬ AcquirePasses s r a.handle a.mode →
    ∃ t, exec (.acquire p) s = .next t ∧
      OnlyAnswers p
        ⟨if a.handle.generation ≠ e.generation then .staleHandle
          else if e.state = .free then .notAllocated
          else if a.mode = .shared ∧ e.kind = .exclusive then .wrongKind
          else if e.exclusiveHolder = some r ∨ r ∈ e.sharedHolders then .alreadyHeld
          else .alreadyWaiting, 0, 0, 0⟩ s t

/-- R31, R32: an ACQUIRE that passes its checks is granted at once when the queue is empty and its mode is compatible with
the holders. A leased grant first needs one entry of inbox room, else INBOX_FULL; it reserves that entry and inserts the lease
deadline. The result carries the handle, the mode and the mark as it stood. -/
def Obligations.AcquireIsGrantedAtOnce : Prop :=
  ∀ (p : Port) (s : State) (a : Args), Requests s p .acquire a →
    let i := a.handle.index
    let e := s.lock i
    let r : Requester := ⟨p, a.lockAgent⟩
    let b := s.inbox p
    AcquirePasses s r a.handle a.mode → e.queue = [] → e.Accepts a.mode →
    ∃ t, exec (.acquire p) s = .next t ∧
      (e.Leases a.mode ∧ 16 ≤ b.entries.length + b.reserved → OnlyAnswers p ⟨.inboxFull, 0, 0, 0⟩ s t) ∧
      (¬(e.Leases a.mode ∧ 16 ≤ b.entries.length + b.reserved) →
        GrantedIn r a.mode e (t.lock i) ∧ OnlyLock i (t.lock i) s t ∧
        AnsweredWith p ⟨.granted, a.arg0, BitVec.ofNat 16 (a.mode.code + 4 * e.mark.code), 0⟩ s t ∧
        (¬ e.Leases a.mode → t = { s with units := t.units, locks := t.locks }) ∧
        (e.Leases a.mode →
          t = { s with
            units := t.units, locks := t.locks, inboxes := t.inboxes
            deadlines := placeDeadline s.tick ⟨.lease i, s.tick + e.leasePeriod.setWidth 32, false⟩ s.deadlines } ∧
          OnlyInbox p { b with reserved := b.reserved + 1 } s t))

/-- R24, R33, R34: an ACQUIRE that passes its checks and cannot be granted at once completes CONTENDED with wait limit 0;
else it is refused PORT_CAP, POOL_EMPTY or INBOX_FULL, in this order, for want of a record or of the one or two entries it
needs. None of these changes anything. -/
def Obligations.AcquireFindsNoRoom : Prop :=
  ∀ (p : Port) (s : State) (a : Args), Requests s p .acquire a →
    let e := s.lock a.handle.index
    let b := s.inbox p
    let need := if a.mode = .exclusive ∧ e.leasePeriod ≠ 0 then 2 else 1
    AcquirePasses s ⟨p, a.lockAgent⟩ a.handle a.mode → ¬(e.queue = [] ∧ e.Accepts a.mode) →
    ∃ t, exec (.acquire p) s = .next t ∧
      (a.arg2 = 0 → OnlyAnswers p ⟨.contended, 0, 0, 0⟩ s t) ∧
      (a.arg2 ≠ 0 → (s.pool p).cap ≤ (s.pool p).count → OnlyAnswers p ⟨.portCap, 0, 0, 0⟩ s t) ∧
      (a.arg2 ≠ 0 → (s.pool p).count < (s.pool p).cap → s.freeRecords = 0 → OnlyAnswers p ⟨.poolEmpty, 0, 0, 0⟩ s t) ∧
      (a.arg2 ≠ 0 → (s.pool p).count < (s.pool p).cap → s.freeRecords ≠ 0 →
        16 < b.entries.length + b.reserved + need → OnlyAnswers p ⟨.inboxFull, 0, 0, 0⟩ s t)

/-- R35: the ACQUIRE that must wait and finds a record and room is queued: a record is taken and filled, one or two entries are
reserved, the record joins the tail of the queue, and a wait limit of 1 to 65 534 inserts a deadline. The result carries the
ticket. -/
def Obligations.AcquireQueues : Prop :=
  ∀ (p : Port) (s : State) (a : Args), Requests s p .acquire a →
    let i := a.handle.index
    let e := s.lock i
    let r : Requester := ⟨p, a.lockAgent⟩
    let b := s.inbox p
    let need := if a.mode = .exclusive ∧ e.leasePeriod ≠ 0 then 2 else 1
    AcquirePasses s r a.handle a.mode → ¬(e.queue = [] ∧ e.Accepts a.mode) → a.arg2 ≠ 0 →
    (s.pool p).count < (s.pool p).cap → s.freeRecords ≠ 0 → b.entries.length + b.reserved + need ≤ 16 →
    ∃ t, exec (.acquire p) s = .next t ∧
      t = { s with
        units := t.units, locks := t.locks, poolPorts := t.poolPorts, inboxes := t.inboxes
        freeRecords := s.freeRecords - 1
        deadlines :=
          if a.arg2 = 65535 then s.deadlines
          else placeDeadline s.tick ⟨.wait i r, s.tick + a.arg2.setWidth 32, false⟩ s.deadlines } ∧
      OnlyLock i { e with queue := e.queue ++ [⟨r, i, a.mode, s.nextTicket p, need⟩] } s t ∧
      OnlyPool p { s.pool p with count := (s.pool p).count + 1, nextTicket := s.nextTicket p + 1 } s t ∧
      OnlyInbox p { b with reserved := b.reserved + need } s t ∧
      AnsweredWith p ⟨.queued, (s.nextTicket p).setWidth 16, 0, 0⟩ s t

/-- R26: the ticket given is the first value from the counter on, wrapping from 255 to 0, that no record of the port in use
carries. The premise is R26's: a port has at most 24 records in use. -/
def Obligations.TicketIsFirstFree : Prop :=
  ∀ (p : Port) (s : State), (s.records.filter fun w => w.requester.port == p).length ≤ 24 →
    let used (k : Nat) : Prop :=
      ∃ w ∈ s.records, w.requester.port = p ∧ w.ticket = (s.pool p).nextTicket + BitVec.ofNat 8 k
    ∃ k, s.nextTicket p = (s.pool p).nextTicket + BitVec.ofNat 8 k ∧ k ≤ 24 ∧ ¬ used k ∧ ∀ j, j < k → used j

/-- R45, R46: RELEASE validates the handle and refuses a requester that does not hold the lock; else the hold is removed, an
exclusive hold with its lease deadline and lease reservation, and grant evaluation runs in the same event. -/
def Obligations.ReleaseEndsHold : Prop :=
  ∀ (p : Port) (s : State) (a : Args), Requests s p .release a →
    let i := a.handle.index
    let e := s.lock i
    let r : Requester := ⟨p, a.lockAgent⟩
    ∃ t, exec (.release p) s = .next t ∧
      if a.handle.generation ≠ e.generation then OnlyAnswers p ⟨.staleHandle, 0, 0, 0⟩ s t
      else if e.state = .free then OnlyAnswers p ⟨.notAllocated, 0, 0, 0⟩ s t
      else if e.exclusiveHolder = some r then
        ∃ u, EvaluatedAndAnswered u i p ⟨.ok, 0, 0, 0⟩ s t ∧ OnlyLock i { e with exclusiveHolder := none } s u ∧
          (e.leasePeriod = 0 → u = { s with locks := u.locks }) ∧
          (e.leasePeriod ≠ 0 →
            u = { s with
              locks := u.locks, inboxes := u.inboxes
              deadlines := s.deadlines.filter fun d => d.object != .lease i } ∧
            OnlyInbox p { s.inbox p with reserved := (s.inbox p).reserved - 1 } s u)
      else if r ∈ e.sharedHolders then
        ∃ u, EvaluatedAndAnswered u i p ⟨.ok, 0, 0, 0⟩ s t ∧ u = { s with locks := u.locks } ∧
          OnlyLock i { e with sharedHolders := e.sharedHolders.erase r } s u
      else OnlyAnswers p ⟨.notHolder, 0, 0, 0⟩ s t

/-- R47, R48: DOWNGRADE makes its checks in their order; one that passes makes the requester the only shared holder, ends the
lease, and runs grant evaluation. -/
def Obligations.DowngradeSharesHold : Prop :=
  ∀ (p : Port) (s : State) (a : Args), Requests s p .downgrade a →
    let i := a.handle.index
    let e := s.lock i
    let r : Requester := ⟨p, a.lockAgent⟩
    ∃ t, exec (.downgrade p) s = .next t ∧
      if a.handle.generation ≠ e.generation then OnlyAnswers p ⟨.staleHandle, 0, 0, 0⟩ s t
      else if e.state = .free then OnlyAnswers p ⟨.notAllocated, 0, 0, 0⟩ s t
      else if e.exclusiveHolder ≠ some r then OnlyAnswers p ⟨.notHolder, 0, 0, 0⟩ s t
      else if e.kind = .exclusive then OnlyAnswers p ⟨.wrongKind, 0, 0, 0⟩ s t
      else
        ∃ u, EvaluatedAndAnswered u i p ⟨.ok, 0, 0, 0⟩ s t ∧
          OnlyLock i { e with exclusiveHolder := none, sharedHolders := [r] } s u ∧
          (e.leasePeriod = 0 → u = { s with locks := u.locks }) ∧
          (e.leasePeriod ≠ 0 →
            u = { s with
              locks := u.locks, inboxes := u.inboxes
              deadlines := s.deadlines.filter fun d => d.object != .lease i } ∧
            OnlyInbox p { s.inbox p with reserved := (s.inbox p).reserved - 1 } s u)

/-- R69, R70: RENEW makes its checks in their order (a departed port's is refused before them); one that passes moves the lease
deadline to the present tick plus the lease period, behind every entry of equal tick, and reports the handle and that tick. -/
def Obligations.RenewMovesLease : Prop :=
  (∀ (p : Port) (s : State) (a : Args) (d : Bool), (s.unit p).inFlight = some ⟨.renew, a, .handed d⟩ →
    (d = true ∨ s.attached p = false) → ∃ t, exec (.renew p) s = .next t ∧ OnlyAnswers p ⟨.departed, 0, 0, 0⟩ s t) ∧
  ∀ (p : Port) (s : State) (a : Args), Requests s p .renew a →
    let i := a.handle.index
    let e := s.lock i
    let tick := s.tick + e.leasePeriod.setWidth 32
    ∃ t, exec (.renew p) s = .next t ∧
      if a.handle.generation ≠ e.generation then OnlyAnswers p ⟨.staleHandle, 0, 0, 0⟩ s t
      else if e.state = .free then OnlyAnswers p ⟨.notAllocated, 0, 0, 0⟩ s t
      else if e.exclusiveHolder ≠ some ⟨p, a.lockAgent⟩ then OnlyAnswers p ⟨.notHolder, 0, 0, 0⟩ s t
      else if e.leasePeriod = 0 then OnlyAnswers p ⟨.noLease, 0, 0, 0⟩ s t
      else
        t = { s with
          units := t.units
          deadlines := placeDeadline s.tick ⟨.lease i, tick, false⟩ (s.deadlines.filter fun d => d.object != .lease i) } ∧
        AnsweredWith p ⟨.ok, a.arg0, tick.extractLsb' 0 16, tick.extractLsb' 16 16⟩ s t

/-- R49: CANCEL ends the wait that carries the ticket, wherever it stands: the record is freed with its deadline and its
reservations, nothing is delivered for it, and grant evaluation runs on its lock. Without such a record the command completes
NO_SUCH_TICKET. The premise of the second clause is that the ticket names one record (R27). -/
def Obligations.CancelEndsWait : Prop :=
  ∀ (p : Port) (s : State) (a : Args), Requests s p .cancel a →
    let ticket := a.arg0.extractLsb' 0 8
    ((∀ i : LockIndex, ∀ w ∈ (s.lock i).queue, ¬(w.requester.port = p ∧ w.ticket = ticket)) →
      ∃ t, exec (.cancel p) s = .next t ∧ OnlyAnswers p ⟨.noSuchTicket, 0, 0, 0⟩ s t) ∧
    ∀ (i : LockIndex) (w : WaiterRecord), w ∈ (s.lock i).queue → w.requester.port = p → w.ticket = ticket →
      (∀ j : LockIndex, ∀ x ∈ (s.lock j).queue, x.requester.port = p → x.ticket = ticket → j = i ∧ x = w) →
      ∃ t u, exec (.cancel p) s = .next t ∧
        RecordFreed i w (s.inbox p).entries ((s.inbox p).reserved - w.reservations) s u ∧
        EvaluatedAndAnswered u i p
          ⟨.ok, Handle.toWord ⟨i, (s.lock i).generation⟩,
            BitVec.ofNat 16 (w.requester.agent.val + 16 * w.mode.code), 0⟩ s t

/-- R39 to R43: the steps of grant evaluation. An empty queue or a blocked head stops it. A head whose port is not ATTACHED is
removed without delivery. A live head that the holders admit is granted: it becomes a holder, the mark is reported and cleared,
one reservation becomes the GRANTED entry, and an exclusive grant of a leased lock keeps the other and inserts the lease
deadline. The premise says that a record holds the reservations its grant needs (R29). -/
def Obligations.EvaluationGrantsInOrder : Prop :=
  ∀ (s : State) (i : LockIndex),
    let e := s.lock i
    (e.queue = [] → s.evaluate i = s) ∧
    ∀ (w : WaiterRecord) (rest : List WaiterRecord), e.queue = w :: rest →
      let p := w.requester.port
      let b := s.inbox p
      (s.attached p = false →
        ∃ u, s.evaluate i = u.evaluate i ∧ RecordFreed i w b.entries (b.reserved - w.reservations) s u) ∧
      (s.attached p = true → ¬ e.Accepts w.mode → s.evaluate i = s) ∧
      (s.attached p = true → e.Accepts w.mode → w.reservations = (if w.mode = .exclusive ∧ e.leasePeriod ≠ 0 then 2 else 1) →
        ∃ u v, s.evaluate i = v.evaluate i ∧
          RecordFreed i w
            (b.entries ++ [⟨w.requester.agent, .granted ⟨i, e.generation⟩ w.mode w.ticket e.mark⟩]) (b.reserved - 1) s u ∧
          GrantedIn w.requester w.mode { e with queue := rest } (v.lock i) ∧ OnlyLock i (v.lock i) u v ∧
          v = { u with
            locks := v.locks
            deadlines :=
              if w.mode = .exclusive ∧ e.leasePeriod ≠ 0 then
                placeDeadline s.tick ⟨.lease i, s.tick + e.leasePeriod.setWidth 32, false⟩ u.deadlines
              else u.deadlines })

/-- R6, R39, R52: after grant evaluation the queue is empty, or a live head stands behind a holder that blocks it; so no lock
without a holder has a queue. Other locks, the barriers, the sessions and the command units are as they were. -/
def Obligations.EvaluationStopsAtBlockedHead : Prop :=
  ∀ (s : State) (i : LockIndex),
    let t := s.evaluate i
    ((t.lock i).queue = [] ∨
      ∃ w rest, (t.lock i).queue = w :: rest ∧ t.attached w.requester.port = true ∧ ¬ (t.lock i).Accepts w.mode) ∧
    (∃ removed, (s.lock i).queue = removed ++ (t.lock i).queue) ∧
    OnlyLock i (t.lock i) s t ∧
    t = { s with
      locks := t.locks, poolPorts := t.poolPorts, freeRecords := t.freeRecords, inboxes := t.inboxes
      deadlines := t.deadlines }

/-! ### Notes (chapter 4) -/

/-- R91, R92: POST checks that its sender has not departed, that the target is ATTACHED and that its free room is not 0; the
note then stands at the tail of the target's inbox, and the result carries the target's session generation. -/
def Obligations.PostDeliversNote : Prop :=
  (∀ (p : Port) (s : State) (a : Args) (d : Bool), (s.unit p).inFlight = some ⟨.post, a, .handed d⟩ →
    (d = true ∨ s.attached p = false) → ∃ t, exec (.post p) s = .next t ∧ OnlyAnswers p ⟨.departed, 0, 0, 0⟩ s t) ∧
  ∀ (p : Port) (s : State) (a : Args), Requests s p .post a →
    let q := a.target
    let b := s.inbox q
    ∃ t, exec (.post p) s = .next t ∧
      if s.attached q = false then OnlyAnswers p ⟨.targetDetached, 0, 0, 0⟩ s t
      else if 16 ≤ b.entries.length + b.reserved then OnlyAnswers p ⟨.targetFull, 0, 0, 0⟩ s t
      else
        t = { s with units := t.units, inboxes := t.inboxes } ∧
        OnlyInbox q
          { b with
            entries := b.entries ++
              [⟨a.targetAgent, .note p a.senderAgent (a.arg1.extractLsb' 0 8) (a.arg3 ++ a.arg2)⟩] } s t ∧
        AnsweredWith p ⟨.ok, (s.session q).generation.setWidth 16, 0, 0⟩ s t

/-! ### Barriers (chapter 5) -/

/-- R98: JOIN appends the requester to the member list of a barrier in any state, unless it is a member already or the list
is full; the result carries the state and the phase. -/
def Obligations.JoinAppendsMember : Prop :=
  ∀ (p : Port) (s : State) (a : Args), Requests s p .join a →
    let r : Requester := ⟨p, a.barrierAgent⟩
    let x := s.barrier a.barrier
    ∃ t, exec (.join p) s = .next t ∧
      if r ∈ x.members then OnlyAnswers p ⟨.alreadyMember, 0, 0, 0⟩ s t
      else if 8 ≤ x.members.length then OnlyAnswers p ⟨.barrierFull, 0, 0, 0⟩ s t
      else
        t = { s with units := t.units, barriers := t.barriers } ∧
        OnlyBarrier a.barrier { x with members := x.members ++ [r] } s t ∧
        AnsweredWith p ⟨.ok, BitVec.ofNat 16 (x.phase.toNat + 256 * x.state.code), 0, 0⟩ s t

/-- R99, R100: LEAVE removes a member that has not arrived; where every remaining member has arrived the barrier opens, and
where no member remains it is IDLE. -/
def Obligations.LeaveRemovesMember : Prop :=
  ∀ (p : Port) (s : State) (a : Args), Requests s p .leave a →
    let r : Requester := ⟨p, a.barrierAgent⟩
    let x := s.barrier a.barrier
    let y := { x with members := x.members.erase r }
    ∃ t, exec (.leave p) s = .next t ∧
      if r ∉ x.members then OnlyAnswers p ⟨.notMember, 0, 0, 0⟩ s t
      else if r ∈ x.arrived then OnlyAnswers p ⟨.arrived, 0, 0, 0⟩ s t
      else if x.arrived ≠ [] ∧ ∀ m ∈ y.members, m ∈ x.arrived then
        t = { s with units := t.units, barriers := t.barriers, inboxes := t.inboxes } ∧
        OpenedFrom a.barrier y s t ∧ AnsweredWith p ⟨.ok, BitVec.ofNat 16 ((x.phase + 1).toNat + 256), 0, 0⟩ s t
      else
        t = { s with units := t.units, barriers := t.barriers } ∧
        OnlyBarrier a.barrier { y with state := if y.members = [] then .idle else x.state } s t ∧
        AnsweredWith p ⟨.ok, x.phase.setWidth 16, 0, 0⟩ s t

/-- R100 to R102: ARRIVE makes its checks in their order; an arrival that completes the set opens the barrier and takes no
reservation, another needs one entry of inbox room, reserves it and joins the arrived set. -/
def Obligations.ArriveWaitsOrOpens : Prop :=
  ∀ (p : Port) (s : State) (a : Args), Requests s p .arrive a →
    let r : Requester := ⟨p, a.barrierAgent⟩
    let x := s.barrier a.barrier
    let b := s.inbox p
    ∃ t, exec (.arrive p) s = .next t ∧
      if r ∉ x.members then OnlyAnswers p ⟨.notMember, 0, 0, 0⟩ s t
      else if x.state = .broken then OnlyAnswers p ⟨.broken, 0, 0, 0⟩ s t
      else if r ∈ x.arrived then OnlyAnswers p ⟨.arrived, 0, 0, 0⟩ s t
      else if ∀ m ∈ x.members, m ≠ r → m ∈ x.arrived then
        t = { s with units := t.units, barriers := t.barriers, inboxes := t.inboxes } ∧
        OpenedFrom a.barrier x s t ∧ AnsweredWith p ⟨.opened, (x.phase + 1).setWidth 16, 0, 0⟩ s t
      else if 16 ≤ b.entries.length + b.reserved then OnlyAnswers p ⟨.inboxFull, 0, 0, 0⟩ s t
      else
        t = { s with units := t.units, barriers := t.barriers, inboxes := t.inboxes } ∧
        OnlyBarrier a.barrier { x with arrived := x.arrived ++ [r], state := .gathering } s t ∧
        OnlyInbox p { b with reserved := b.reserved + 1 } s t ∧
        AnsweredWith p ⟨.queued, x.phase.setWidth 16, 0, 0⟩ s t

/-- R103: WITHDRAW takes the requester out of the arrived set and drops its reservation; it stays a member, and the state
becomes IDLE when no arrival is left. -/
def Obligations.WithdrawDropsArrival : Prop :=
  ∀ (p : Port) (s : State) (a : Args), Requests s p .withdraw a →
    let r : Requester := ⟨p, a.barrierAgent⟩
    let x := s.barrier a.barrier
    let rest := x.arrived.erase r
    ∃ t, exec (.withdraw p) s = .next t ∧
      if r ∉ x.members then OnlyAnswers p ⟨.notMember, 0, 0, 0⟩ s t
      else if r ∉ x.arrived then OnlyAnswers p ⟨.notArrived, 0, 0, 0⟩ s t
      else
        t = { s with units := t.units, barriers := t.barriers, inboxes := t.inboxes } ∧
        OnlyBarrier a.barrier { x with arrived := rest, state := if rest = [] then .idle else .gathering } s t ∧
        OnlyInbox p { s.inbox p with reserved := (s.inbox p).reserved - 1 } s t ∧
        AnsweredWith p ⟨.ok, x.phase.setWidth 16, 0, 0⟩ s t

/-- R104, R105: BREAK by a member ends a GATHERING round with the issuing port as cause, makes an IDLE barrier BROKEN, and
leaves a BROKEN one as it is. -/
def Obligations.BreakEndsRound : Prop :=
  ∀ (p : Port) (s : State) (a : Args), Requests s p .breakBarrier a →
    let r : Requester := ⟨p, a.barrierAgent⟩
    let x := s.barrier a.barrier
    ∃ t, exec (.breakBarrier p) s = .next t ∧
      if r ∉ x.members then OnlyAnswers p ⟨.notMember, 0, 0, 0⟩ s t
      else
        (t.barrier a.barrier).state = .broken ∧
        match x.state with
        | .gathering =>
          t = { s with units := t.units, barriers := t.barriers, inboxes := t.inboxes } ∧
          BrokenFrom a.barrier x p s t ∧ AnsweredWith p ⟨.ok, (x.phase + 1).setWidth 16, 0, 0⟩ s t
        | .idle =>
          t = { s with units := t.units, barriers := t.barriers } ∧
          OnlyBarrier a.barrier { x with state := .broken } s t ∧
          AnsweredWith p ⟨.ok, x.phase.setWidth 16, 0, 0⟩ s t
        | .broken => OnlyAnswers p ⟨.ok, x.phase.setWidth 16, 0, 0⟩ s t

/-- R106, R107: REARM by a member makes a BROKEN barrier IDLE and changes no other item; BARRIER_QUERY reports the state, the
phase and the two counts and changes nothing. The bounds on the counts are those R107 gives. -/
def Obligations.RearmAndBarrierQuery : Prop :=
  (∀ (p : Port) (s : State) (a : Args), Requests s p .rearm a →
    let r : Requester := ⟨p, a.barrierAgent⟩
    let x := s.barrier a.barrier
    ∃ t, exec (.rearm p) s = .next t ∧
      if r ∉ x.members then OnlyAnswers p ⟨.notMember, 0, 0, 0⟩ s t
      else if x.state ≠ .broken then OnlyAnswers p ⟨.wrongState, 0, 0, 0⟩ s t
      else
        t = { s with units := t.units, barriers := t.barriers } ∧
        OnlyBarrier a.barrier { x with state := .idle } s t ∧
        AnsweredWith p ⟨.ok, x.phase.setWidth 16, 0, 0⟩ s t) ∧
  ∀ (p : Port) (s : State) (a : Args), Requests s p .barrierQuery a →
    let x := s.barrier a.barrier
    x.members.length ≤ 8 → x.arrived.length ≤ 7 →
    ∃ t, exec (.barrierQuery p) s = .next t ∧
      OnlyAnswers p
        ⟨.ok, BitVec.ofNat 16 (x.phase.toNat + 256 * x.state.code),
          BitVec.ofNat 16 (x.members.length + 16 * x.arrived.length), 0⟩ s t

/-! ### Sessions (chapter 6) -/

/-- R114, R116: ATTACH in DETACHED starts a session: the generation moves on, from 255 to 1, the ticket counter is 0, and a
keepalive deadline is inserted for a non-zero interval; in any other state it completes WRONG_STATE. -/
def Obligations.AttachStartsSession : Prop :=
  ∀ (p : Port) (s : State) (a : Args), (s.unit p).inFlight = some ⟨.attach, a, .handed false⟩ →
    let r := s.session p
    let g := if r.generation = 255 then 1 else r.generation + 1
    ∃ t, exec (.attach p) s = .next t ∧
      if r.state ≠ .detached then OnlyAnswers p ⟨.wrongState, 0, 0, 0⟩ s t
      else
        t = { s with
          units := t.units, sessions := t.sessions, poolPorts := t.poolPorts
          deadlines :=
            if r.keepalive = 0 then s.deadlines
            else placeDeadline s.tick ⟨.keepalive p, s.tick + r.keepalive.setWidth 32, false⟩ s.deadlines } ∧
        OnlySession p { r with state := .attached, generation := g } s t ∧
        OnlyPool p { s.pool p with nextTicket := 0 } s t ∧
        AnsweredWith p ⟨.ok, g.setWidth 16, 0, 0⟩ s t

/-- R117, R118, R119, R122: DETACH departs its port with cause DETACH and completes OK; FORCE_DETACH departs an ATTACHED target,
its own port among them, with cause FORCED; TOUCH changes nothing. Each result carries the session generation. -/
def Obligations.DetachAndForceDetachDepart : Prop :=
  (∀ (p : Port) (s : State) (a : Args), Requests s p .detach a →
    ∃ t, exec (.detach p) s = .next t ∧
      DepartedWith p .detach s.deadlines s t ∧
      t = { s with
        units := t.units, sessions := t.sessions, engine := t.engine, departureQueue := t.departureQueue
        inboxes := t.inboxes, deadlines := t.deadlines } ∧
      AnsweredWith p ⟨.ok, (s.session p).generation.setWidth 16, 0, 0⟩ s t) ∧
  (∀ (p : Port) (s : State) (a : Args), Requests s p .touch a →
    ∃ t, exec (.touch p) s = .next t ∧ OnlyAnswers p ⟨.ok, (s.session p).generation.setWidth 16, 0, 0⟩ s t) ∧
  ∀ (p : Port) (s : State) (a : Args), Requests s p .forceDetach a →
    let q := a.target
    let answer : Answer := ⟨.ok, (s.session q).generation.setWidth 16, 0, 0⟩
    ∃ t, exec (.forceDetach p) s = .next t ∧
      if s.attached q = false then OnlyAnswers p ⟨.targetDetached, 0, 0, 0⟩ s t
      else
        DepartedWith q .forced s.deadlines s t ∧
        t = { s with
          units := t.units, sessions := t.sessions, engine := t.engine, departureQueue := t.departureQueue
          inboxes := t.inboxes, deadlines := t.deadlines } ∧
        t.unit p = { s.unit p with inFlight := some ⟨.forceDetach, a, .answered answer⟩ } ∧
        (q ≠ p → MarkedDeparted (s.unit q) (t.unit q)) ∧
        ∀ k : Port, k ≠ p → k ≠ q → t.unit k = s.unit k

/-- R61, R121, R122: a keepalive deadline that is due at the head of the list leaves it, and its port departs with cause
KEEPALIVE. The premise that the port is ATTACHED is R121's (`DeadlinesMatch`). -/
def Obligations.KeepaliveExpiryDeparts : Prop :=
  ∀ (s : State) (p : Port) (k : Ticks) (rest : List Deadline),
    s.deadlines = ⟨.keepalive p, k, true⟩ :: rest → s.attached p = true →
    ∃ t, exec .keepaliveExpiry s = .next t ∧
      DepartedWith p .keepalive rest s t ∧
      t = { s with
        units := t.units, sessions := t.sessions, engine := t.engine, departureQueue := t.departureQueue
        inboxes := t.inboxes, deadlines := t.deadlines } ∧
      MarkedDeparted (s.unit p) (t.unit p) ∧ ∀ q : Port, q ≠ p → t.unit q = s.unit q

/-! ### Ticks and expiries (chapter 3) -/

/-- R53 to R55: at the end of a tick the counter advances, modulo 4 294 967 296, every entry it reaches falls due and stays
so, and the next tick takes the length of the prescale value now in force, 65 536 for 0. The due mark (log 5) and the sum of
cycles (log 6) are the model's. -/
def Obligations.TickAdvancesCounter : Prop :=
  ∀ s : State, s.resetLow = false →
    exec .tick s = .next
      { s with
        tick := s.tick + 1
        deadlines := s.deadlines.map fun d => { d with due := d.due || d.tick == s.tick + 1 }
        cycleCount := s.cycleCount + s.tickLength
        tickLength := if s.prescale = 0 then 65536 else s.prescale.toNat }

/-- R61 to R63: a wait deadline that is due at the head of the list leaves it with its record, wherever the record stands; an
ATTACHED port receives WAIT_EXPIRED from one reservation and the other is dropped, a departed one receives nothing; then grant
evaluation runs. The premises on the record are R28's and R21's. -/
def Obligations.WaitExpiryEndsWait : Prop :=
  ∀ (s : State) (i : LockIndex) (w : WaiterRecord) (k : Ticks) (rest : List Deadline),
    let p := w.requester.port
    let b := s.inbox p
    s.deadlines = ⟨.wait i w.requester, k, true⟩ :: rest → w ∈ (s.lock i).queue → 1 ≤ w.reservations →
    (∀ x ∈ (s.lock i).queue, x.requester = w.requester → x = w) →
    ∃ u, exec .waitExpiry s = .next (u.evaluate i) ∧
      RecordFreed i w
        (if s.attached p then
          b.entries ++ [⟨w.requester.agent, .waitExpired ⟨i, (s.lock i).generation⟩ w.mode w.ticket⟩]
        else b.entries)
        (b.reserved - w.reservations) { s with deadlines := rest } u

/-- R61, R66, R67: a lease deadline that is due at the head of the list leaves it and the hold ends: an ATTACHED holder
receives LEASE_REVOKED from the lease reservation and the mark is REVOKED, for a departed one the reservation is dropped and the
mark is ABANDONED; then grant evaluation runs. -/
def Obligations.LeaseExpiryEndsHold : Prop :=
  ∀ (s : State) (i : LockIndex) (r : Requester) (k : Ticks) (rest : List Deadline),
    let e := s.lock i
    let b := s.inbox r.port
    s.deadlines = ⟨.lease i, k, true⟩ :: rest → e.exclusiveHolder = some r →
    ∃ u, exec .leaseExpiry s = .next (u.evaluate i) ∧
      u = { s with locks := u.locks, inboxes := u.inboxes, deadlines := rest } ∧
      OnlyLock i
        { e with exclusiveHolder := none, mark := if s.attached r.port then .revoked else .abandoned } s u ∧
      OnlyInbox r.port
        { entries :=
            if s.attached r.port then b.entries ++ [⟨r.agent, .leaseRevoked ⟨i, e.generation⟩⟩] else b.entries
          reserved := b.reserved - 1 } s u

/-! ### The sweep (chapter 7) -/

/-- R135, R136, R137: the visit to a lock removes the swept port's records, with their deadlines and reservations, and its
holds, an exclusive one with its lease and with the mark ABANDONED; it clears the allocator where it names the port, runs grant
evaluation if it removed a record or a hold, and moves the position on. -/
def Obligations.LockVisitClearsPort : Prop :=
  ∀ (s : State) (p : Port) (i : LockIndex), s.engine = .busy p (.locks i) →
    let e := s.lock i
    let records := e.queue.filter fun w => w.requester.port == p
    let exclusive : Bool := e.exclusiveHolder.any fun r => r.port == p
    let lease : Bool := exclusive && e.leasePeriod != 0
    let removes : Prop := records ≠ [] ∨ exclusive = true ∨ ∃ r ∈ e.sharedHolders, r.port = p
    let next : Position := if h : i.val + 1 < 64 then .locks ⟨i.val + 1, h⟩ else .barriers 0
    ∃ t u, exec .lockVisit s = .next t ∧
      (removes → t = { u.evaluate i with engine := .busy p next }) ∧
      (¬ removes → t = { u with engine := .busy p next }) ∧
      OnlyLock i
        { e with
          queue := e.queue.filter fun w => w.requester.port != p
          exclusiveHolder := if exclusive then none else e.exclusiveHolder
          mark := if exclusive then .abandoned else e.mark
          sharedHolders := e.sharedHolders.filter fun r => r.port != p
          allocator := if e.allocator = some p then none else e.allocator } s u ∧
      OnlyPool p { s.pool p with count := (s.pool p).count - records.length } s u ∧
      OnlyInbox p
        { s.inbox p with
          reserved := (s.inbox p).reserved - (records.map (·.reservations)).sum - (if lease then 1 else 0) } s u ∧
      u = { s with
        locks := u.locks, poolPorts := u.poolPorts, inboxes := u.inboxes
        freeRecords := s.freeRecords + records.length
        deadlines := s.deadlines.filter fun d =>
          (records.all fun w => d.object != .wait i w.requester) && (!lease || d.object != .lease i) }

/-- R108, R135, R139: the visit to a barrier removes the swept port's members and arrivals and drops their reservations, and
breaks the round with that port as cause if the arrived set was not empty; without a member of the port nothing changes. The
position moves on. -/
def Obligations.BarrierVisitClearsPort : Prop :=
  ∀ (s : State) (p : Port) (b : BarrierIndex), s.engine = .busy p (.barriers b) →
    let x := s.barrier b
    let y := { x with
      members := x.members.filter fun r => r.port != p
      arrived := x.arrived.filter fun r => r.port != p }
    let next : Position := if h : b.val + 1 < 8 then .barriers ⟨b.val + 1, h⟩ else .final
    ∃ t, exec .barrierVisit s = .next t ∧
      if ∀ r ∈ x.members, r.port ≠ p then t = { s with engine := .busy p next }
      else if x.arrived = [] then
        t = { s with engine := .busy p next, barriers := t.barriers } ∧
        OnlyBarrier b { y with state := if y.members = [] then .idle else x.state } s t
      else
        t = { s with engine := .busy p next, barriers := t.barriers, inboxes := t.inboxes } ∧
        ∃ u, u = { s with inboxes := u.inboxes } ∧
          OnlyInbox p
            { s.inbox p with
              reserved := (s.inbox p).reserved - (x.arrived.filter fun r => r.port == p).length } s u ∧
          BrokenFrom b y p u t

/-- R130, R140: the final step makes the swept port DETACHED and adds it to the summary of every other ATTACHED port; the
engine takes the head of the departure queue, which becomes SWEEPING, or goes IDLE. The premise is R133's. -/
def Obligations.FinalStepEndsSweep : Prop :=
  ∀ (s : State) (p : Port), s.engine = .busy p .final → SweepQueueSound s →
    ∃ t, exec .finalStep s = .next t ∧
      t = { s with sessions := t.sessions, engine := t.engine, departureQueue := s.departureQueue.tail } ∧
      (s.departureQueue = [] → t.engine = .idle) ∧
      (∀ q rest, s.departureQueue = q :: rest → t.engine = .busy q (.locks 0)) ∧
      ∀ q : Port,
        t.session q =
          if q = p then { s.session q with state := .detached }
          else if s.attached q then { s.session q with summary := (s.session q).summary ||| BitVec.ofNat 4 (2 ^ p.val) }
          else if s.departureQueue.head? = some q then { s.session q with state := .sweeping }
          else s.session q

/-! ### The window (chapters 8 and 9) -/

/-- R85, R129, R160, R161: a pop takes the head of the inbox; ones written to DSUM and ISTAT clear those members and flags; a
write to IEN sets the four enables. Nothing else changes. -/
def Obligations.FlagWritesAct : Prop :=
  ∀ (p : Port) (v : Word) (s : State), s.resetLow = false → s.held p = false →
    (∃ t, exec (.pop p v) s = .next t ∧ t = { s with inboxes := t.inboxes } ∧
      OnlyInbox p { s.inbox p with entries := (s.inbox p).entries.tail } s t) ∧
    (∃ t, exec (.summaryClear p v) s = .next t ∧ t = { s with sessions := t.sessions } ∧
      OnlySession p { s.session p with summary := (s.session p).summary &&& ~~~(v.extractLsb' 0 4) } s t) ∧
    (∃ t, exec (.istatClear p v) s = .next t ∧ t = { s with units := t.units } ∧
      OnlyUnit p
        { s.unit p with
          completion := if v.getLsbD 2 then false else (s.unit p).completion
          overrun := if v.getLsbD 3 then false else (s.unit p).overrun } s t) ∧
    ∃ t, exec (.ienWrite p v) s = .next t ∧ t = { s with interfaces := t.interfaces } ∧
      OnlyInterface p { s.interface p with enables := v.extractLsb' 0 4 } s t

/-- R23, R54, R72, R120: a write to KALIVE sets the interval and, for an ATTACHED port, moves, inserts or removes the deadline;
a write of 0 to 24 to WCAP sets the cap and a larger one is ignored; a write to PRESCALE acts from the supervisor port only. -/
def Obligations.SettingWritesAct : Prop :=
  ∀ (p : Port) (v : Word) (s : State), s.resetLow = false → s.held p = false →
    (∃ t, exec (.keepaliveIntervalWrite p v) s = .next t ∧
      OnlySession p { s.session p with keepalive := v } s t ∧
      t = { s with
        sessions := t.sessions
        deadlines :=
          let others := s.deadlines.filter fun d => d.object != .keepalive p
          if s.attached p = false then s.deadlines
          else if v = 0 then others
          else placeDeadline s.tick ⟨.keepalive p, s.tick + v.setWidth 32, false⟩ others }) ∧
    (∃ t, exec (.waiterCapWrite p v) s = .next t ∧ t = { s with poolPorts := t.poolPorts } ∧
      OnlyPool p { s.pool p with cap := if v.toNat ≤ 24 then v.toNat else (s.pool p).cap } s t) ∧
    exec (.prescaleWrite p v) s = .next { s with prescale := if p = s.supervisor then v else s.prescale }

/-- R151, R165, R166: a write to an argument word stores it, a write to a read-only word is ignored, and a read of TICKL loads
the snapshot with bits 31:16 of the count whose bits 15:0 it returns. That the row REGISTER_WRITE at the offset of a word with a
row of its own is that row's write (log 11), and that the word returned is held in the state (log 8), is the model's. -/
def Obligations.RegisterWriteAndTicklRead : Prop :=
  ∀ (p : Port) (v : Word) (s : State), s.resetLow = false → s.held p = false →
    let a := (s.interface p).args
    (∀ (off : Offset) (args : Args),
      (off.val = 2 ∧ args = { a with arg0 := v } ∨ off.val = 3 ∧ args = { a with arg1 := v } ∨
        off.val = 4 ∧ args = { a with arg2 := v } ∨ off.val = 5 ∧ args = { a with arg3 := v }) →
      ∃ t, exec (.registerWrite p off v) s = .next t ∧ t = { s with interfaces := t.interfaces } ∧
        OnlyInterface p { s.interface p with args := args } s t) ∧
    (∀ off : Offset, Offset.plain off = true → off.val ∉ [2, 3, 4, 5] → exec (.registerWrite p off v) s = .next s) ∧
    (exec (.registerWrite p 0x06 v) s = exec (.cmdWrite p v) s ∧
      exec (.registerWrite p 0x11 v) s = exec (.pop p v) s ∧
      exec (.registerWrite p 0x12 v) s = exec (.summaryClear p v) s ∧
      exec (.registerWrite p 0x13 v) s = exec (.ienWrite p v) s ∧
      exec (.registerWrite p 0x14 v) s = exec (.istatClear p v) s ∧
      exec (.registerWrite p 0x15 v) s = exec (.keepaliveIntervalWrite p v) s ∧
      exec (.registerWrite p 0x16 v) s = exec (.waiterCapWrite p v) s ∧
      exec (.registerWrite p 0x17 v) s = exec (.softReset p v) s ∧
      exec (.registerWrite p 0x1A v) s = exec (.prescaleWrite p v) s) ∧
    ∃ t, exec (.ticklRead p) s = .next t ∧ t = { s with interfaces := t.interfaces } ∧
      OnlyInterface p
        { s.interface p with snapshot := s.tick.extractLsb' 16 16, busOut := s.tick.extractLsb' 0 16 } s t

/-- R126, R163: while RESETn or the port's PRSTn is low, every write of the port is ignored, every read returns 0 and a read of
TICKL captures nothing. -/
def Obligations.HeldPortTakesNoCycle : Prop :=
  ∀ (p : Port) (v : Word) (s : State), (s.resetLow = true ∨ s.held p = true) →
    (∀ c ∈ ([.cmdWrite p v, .overrun p v, .pop p v, .summaryClear p v, .istatClear p v, .ienWrite p v,
        .keepaliveIntervalWrite p v, .waiterCapWrite p v, .prescaleWrite p v, .softReset p v] : List Instr),
      exec c s = .next s) ∧
    (∀ off : Offset, exec (.registerWrite p off v) s = .next s ∧ s.readWord p off = 0) ∧
    ∃ t, exec (.ticklRead p) s = .next t ∧ t = { s with interfaces := t.interfaces } ∧
      OnlyInterface p { s.interface p with busOut := 0 } s t

/-- R125, R126, R158, R163: PRSTn going low, or a one written to bit 0 of PCTL, is a port reset; a zero written there has no
effect; while RESETn is low the pin's edge is no port reset. PRSTn going high releases the port. That an edge to the level the
pin has already is none (log 12) is the model's. -/
def Obligations.PortResetResetsWindow : Prop :=
  ∀ (p : Port) (s : State),
    (s.resetLow = false → s.held p = false →
      ∃ t, exec (.portReset p) s = .next t ∧ PortWasReset p s t ∧
        t.held p = true ∧ ∀ q : Port, q ≠ p → t.held q = s.held q) ∧
    (s.resetLow = false → s.held p = false → ∀ v : Word,
      (v.getLsbD 0 = true → ∃ t, exec (.softReset p v) s = .next t ∧ PortWasReset p s t ∧ t.prstLow = s.prstLow) ∧
      (v.getLsbD 0 = false → exec (.softReset p v) s = .next s)) ∧
    (s.held p = true → exec (.portReset p) s = .next s) ∧
    (s.resetLow = true → s.held p = false →
      ∃ t, exec (.portReset p) s = .next t ∧ t = { s with prstLow := t.prstLow } ∧
        t.held p = true ∧ ∀ q : Port, q ≠ p → t.held q = s.held q) ∧
    ∃ t, exec (.prstnRelease p) s = .next t ∧ t = { s with prstLow := t.prstLow } ∧
      t.held p = false ∧ ∀ q : Port, q ≠ p → t.held q = s.held q

/-- R53, R127, R147, R159, R163: RESETn going low puts every state at its device-reset value; at its release the supervisor
identity is sampled and the first tick starts; with the pin high the identity is held. That the board's PRSTn levels and the
commands still to come stay as they are (log 14) is the model's, and so are three values the equation with State.reset gives,
which the spec does not: the supervisor identity P0 until the release (log 2), the tick length 100 until then (log 6) and the
bus word 0 (log 8). -/
def Obligations.DeviceResetAndRelease : Prop :=
  ∀ (s : State) (sup : Port),
    exec .deviceReset s = .next { State.reset with prstLow := s.prstLow, pending := s.pending } ∧
    (s.resetLow = true →
      exec (.resetnRelease sup) s = .next
        { s with
          resetLow := false, supervisor := sup, tickLength := if s.prescale = 0 then 65536 else s.prescale.toNat }) ∧
    (s.resetLow = false → exec (.resetnRelease sup) s = .next s)

/-- R131, R146, R155, R162, R164, R166, R167, R168: the words of a port's window as they read, and the level of its INTn. The
bounds are those the rules give for the counts. -/
def Obligations.WindowShowsState : Prop :=
  ∀ (s : State) (p : Port), s.resetLow = false → s.held p = false →
    let r := s.session p
    let u := s.unit p
    let b := s.inbox p
    let f := s.interface p
    let bit (c : Bool) : Nat := if c then 1 else 0
    s.readWord p 0x00 = 0x4410 ∧
    (s.readWord p 0x01).toNat =
      r.state.code + 4 * p.val + 16 * bit (p == s.supervisor) + 32 * r.lastCause.code + 256 * r.generation.toNat ∧
    s.readWord p 0x02 = f.args.arg0 ∧ s.readWord p 0x03 = f.args.arg1 ∧
    s.readWord p 0x04 = f.args.arg2 ∧ s.readWord p 0x05 = f.args.arg3 ∧
    (s.readWord p 0x06).toNat = u.lastCode.toNat + 32768 * bit u.inFlight.isSome ∧
    s.readWord p 0x07 = u.rcode ∧ s.readWord p 0x08 = u.res0 ∧ s.readWord p 0x09 = u.res1 ∧ s.readWord p 0x0A = u.res2 ∧
    (b.entries.length ≤ 16 → b.reserved ≤ 16 → (s.readWord p 0x0B).toNat = b.entries.length + 256 * b.reserved) ∧
    s.readWord p 0x11 = 0 ∧ (s.readWord p 0x12).toNat = r.summary.toNat ∧ (s.readWord p 0x13).toNat = f.enables.toNat ∧
    (s.readWord p 0x14).toNat = 4 * bit u.completion + 8 * bit u.overrun ∧
    s.readWord p 0x15 = r.keepalive ∧ ((s.pool p).cap ≤ 24 → (s.readWord p 0x16).toNat = (s.pool p).cap) ∧
    s.readWord p 0x17 = 0 ∧ s.readWord p 0x18 = s.tick.extractLsb' 0 16 ∧ s.readWord p 0x19 = f.snapshot ∧
    s.readWord p 0x1A = s.prescale ∧
    (p ≠ s.supervisor ∨ s.engine = .idle → s.readWord p 0x1B = 0) ∧
    (∀ q pos, p = s.supervisor → s.engine = .busy q pos → s.departureQueue.length ≤ 3 →
      (s.readWord p 0x1B).toNat =
        (match pos with | .locks i => i.val | .barriers c => c.val + 64 | .final => 128) + 256 * q.val
          + 1024 * s.departureQueue.length + 32768) ∧
    (s.freeRecords ≤ 24 → (s.readWord p 0x1C).toNat = s.freeRecords) ∧
    (s.freeLocks.length ≤ 56 → (s.readWord p 0x1D).toNat = s.freeLocks.length) ∧
    s.readWord p 0x1E = 0 ∧ s.readWord p 0x1F = 0 ∧
    (s.intn p = true ↔
      (f.enables.getLsbD 0 = true ∧ b.entries ≠ []) ∨ (f.enables.getLsbD 1 = true ∧ r.summary ≠ 0) ∨
        (f.enables.getLsbD 2 = true ∧ u.completion = true) ∨ (f.enables.getLsbD 3 = true ∧ u.overrun = true))

/-- R84, R169, R173: the five head words show the entry at the head of the inbox by its kind; while the inbox is empty they all
read 0. -/
def Obligations.HeadWordsShowEntry : Prop :=
  ∀ (s : State) (p : Port), s.resetLow = false → s.held p = false →
    let words (kind agent h2 h3 h4 : Nat) : Prop :=
      (s.readWord p 0x0C).toNat = kind ∧ (s.readWord p 0x0D).toNat = agent ∧ (s.readWord p 0x0E).toNat = h2 ∧
        (s.readWord p 0x0F).toNat = h3 ∧ (s.readWord p 0x10).toNat = h4
    match (s.inbox p).entries with
    | [] => words 0 0 0 0 0
    | ⟨g, .granted h m t k⟩ :: _ =>
      words 1 g.val (h.index.val * 1024 + h.generation.toNat) (t.toNat + 256 * m.code + 1024 * k.code) 0
    | ⟨g, .waitExpired h m t⟩ :: _ =>
      words 2 g.val (h.index.val * 1024 + h.generation.toNat) (t.toNat + 256 * m.code) 0
    | ⟨g, .leaseRevoked h⟩ :: _ => words 3 g.val (h.index.val * 1024 + h.generation.toNat) 0 0
    | ⟨g, .note sp sa tag d⟩ :: _ =>
      words 4 g.val (sp.val + 16 * sa.val + 256 * tag.toNat) (d.toNat % 65536) (d.toNat / 65536)
    | ⟨g, .barrierOpen b ph⟩ :: _ => words 5 g.val b.val ph.toNat 0
    | ⟨g, .barrierBroken b ph c⟩ :: _ => words 6 g.val b.val ph.toNat c.val

/-- R169 to R172: handles and handle words correspond one to one; the enumerated fields, the commands and the result codes have
the values of their tables; a code names the command that has it and no other; and for each command the argument words in range
are those with every field in range and every reserved bit 0, read by the fields R171 gives. The codes of the inbox entry kinds
and of the allocator are in `HeadWordsShowEntry` and `QueryReportsLock`. -/
def Obligations.CodesAndFields : Prop :=
  (∀ h : Handle, Handle.ofWord h.toWord = h ∧ h.toWord.toNat = h.index.val * 1024 + h.generation.toNat) ∧
  (∀ w : Word, (Handle.ofWord w).toWord = w) ∧
  (Kind.exclusive.code = 1 ∧ Kind.shared.code = 2 ∧ Mode.exclusive.code = 1 ∧ Mode.shared.code = 2) ∧
  (Mark.none.code = 0 ∧ Mark.abandoned.code = 1 ∧ Mark.revoked.code = 2) ∧
  (PortState.detached.code = 0 ∧ PortState.attached.code = 1 ∧ PortState.pendingSweep.code = 2 ∧
    PortState.sweeping.code = 3) ∧
  (Cause.none.code = 0 ∧ Cause.detach.code = 1 ∧ Cause.keepalive.code = 2 ∧ Cause.portReset.code = 3 ∧
    Cause.forced.code = 4) ∧
  (BarrierState.idle.code = 0 ∧ BarrierState.gathering.code = 1 ∧ BarrierState.broken.code = 2) ∧
  (∀ x ∈ ([(.attach, 0x01), (.detach, 0x02), (.touch, 0x03), (.forceDetach, 0x04), (.alloc, 0x10), (.retire, 0x11),
      (.defineFixed, 0x12), (.query, 0x13), (.acquire, 0x14), (.release, 0x15), (.downgrade, 0x16), (.renew, 0x17),
      (.cancel, 0x18), (.post, 0x20), (.join, 0x30), (.leave, 0x31), (.arrive, 0x32), (.withdraw, 0x33),
      (.breakBarrier, 0x34), (.rearm, 0x35), (.barrierQuery, 0x36)] : List (Command × BitVec 8)), x.1.code = x.2) ∧
  (∀ x ∈ ([(.ok, 0x00), (.granted, 0x01), (.queued, 0x02), (.contended, 0x03), (.opened, 0x04), (.badCommand, 0x10),
      (.badArgument, 0x11), (.notAttached, 0x12), (.wrongState, 0x13), (.notSupervisor, 0x14), (.departed, 0x15),
      (.staleHandle, 0x20), (.notAllocated, 0x21), (.fixedLock, 0x22), (.notOwner, 0x23), (.inUse, 0x24),
      (.noFreeLock, 0x25), (.wrongKind, 0x26), (.alreadyHeld, 0x27), (.alreadyWaiting, 0x28), (.portCap, 0x29),
      (.poolEmpty, 0x2A), (.inboxFull, 0x2B), (.notHolder, 0x2C), (.noLease, 0x2D), (.noSuchTicket, 0x2E),
      (.targetDetached, 0x30), (.targetFull, 0x31), (.notMember, 0x40), (.alreadyMember, 0x41), (.barrierFull, 0x42),
      (.broken, 0x43), (.arrived, 0x44), (.notArrived, 0x45)] : List (ResultCode × Word)), x.1.toWord = x.2) ∧
  (∀ (code : BitVec 8) (c : Command), Command.ofCode code = some c ↔ c.code = code) ∧
  ∀ a : Args,
    let x0 := a.arg0.toNat
    let x1 := a.arg1.toNat
    (∀ c ∈ [Command.attach, .detach, .touch, .retire, .query], argsInRange c a = true) ∧
    (argsInRange .forceDetach a = true ↔ x0 < 4) ∧ (x0 < 4 → a.target.val = x0) ∧
    (argsInRange .alloc a = true ↔ x0 = 1 ∨ x0 = 2) ∧
    (x0 = 1 → a.allocKind = .exclusive) ∧ (x0 = 2 → a.allocKind = .shared) ∧
    (argsInRange .defineFixed a = true ↔ ∃ n : Nat, n < 8 ∧ (x0 = n + 256 ∨ x0 = n + 512)) ∧
    (∀ n : Nat, n < 8 → (x0 = n + 256 → a.fixedIndex.val = n ∧ a.fixedKind = .exclusive) ∧
      (x0 = n + 512 → a.fixedIndex.val = n ∧ a.fixedKind = .shared)) ∧
    (argsInRange .acquire a = true ↔ ∃ n : Nat, n < 8 ∧ (x1 = n + 16 ∨ x1 = n + 32)) ∧
    (∀ n : Nat, n < 8 → (x1 = n + 16 → a.lockAgent.val = n ∧ a.mode = .exclusive) ∧
      (x1 = n + 32 → a.lockAgent.val = n ∧ a.mode = .shared)) ∧
    (∀ c ∈ [Command.release, .downgrade, .renew], argsInRange c a = true ↔ x1 < 8) ∧ (x1 < 8 → a.lockAgent.val = x1) ∧
    (argsInRange .cancel a = true ↔ x0 < 256) ∧
    (argsInRange .post a = true ↔
      ∃ q g n : Nat, q < 4 ∧ g < 8 ∧ n < 8 ∧ x0 = q + 16 * g + 256 * n ∧ x1 < 256) ∧
    (∀ q g n : Nat, q < 4 → g < 8 → n < 8 → x0 = q + 16 * g + 256 * n →
      a.target.val = q ∧ a.targetAgent.val = g ∧ a.senderAgent.val = n) ∧
    (∀ c ∈ [Command.join, .leave, .arrive, .withdraw, .breakBarrier, .rearm, .barrierQuery],
      argsInRange c a = true ↔ ∃ b g : Nat, b < 8 ∧ g < 8 ∧ x0 = b + 16 * g) ∧
    ∀ b g : Nat, b < 8 → g < 8 → x0 = b + 16 * g → a.barrier.val = b ∧ a.barrierAgent.val = g

/-! ### Rules of the whole block -/

/-- R7, R26, R53, R54, R96, R112, R114, R122, R127: only the named commands change the supervisor identity, the prescale value,
the tick counter, a session generation, a lock's generation, a barrier's phase or a ticket counter, and only they start or end
a session. That the sweep does not end one rests on R132 and R133. That REGISTER_WRITE at 1Ah and at 17h is PRESCALE_WRITE and
SOFT_RESET is the model's reading (log 11). -/
def Obligations.OnlyNamedCommandsChange : Prop :=
  ∀ (c : Instr) (s t : State), exec c s = .next t → c ≠ .deviceReset →
    (t.supervisor = s.supervisor ∨ ∃ sup, c = .resetnRelease sup) ∧
    (t.prescale = s.prescale ∨ ∃ v, c = .prescaleWrite s.supervisor v ∨ c = .registerWrite s.supervisor 0x1A v) ∧
    (t.tick = s.tick ∨ c = .tick) ∧
    (∀ p : Port, (t.session p).generation = (s.session p).generation ∨ c = .attach p) ∧
    (∀ i : LockIndex, (t.lock i).generation = (s.lock i).generation ∨ ∃ p, c = .retire p) ∧
    (∀ b : BarrierIndex, (t.barrier b).phase = (s.barrier b).phase ∨ c = .barrierVisit ∨
      ∃ p, c = .arrive p ∨ c = .leave p ∨ c = .breakBarrier p) ∧
    (∀ p : Port, (t.pool p).nextTicket = (s.pool p).nextTicket ∨ c = .acquire p ∨ c = .attach p) ∧
    (∀ p : Port, s.attached p = false → t.attached p = true → c = .attach p) ∧
    ∀ p : Port, SweepQueueSound s → s.attached p = true → t.attached p = false →
      c = .detach p ∨ c = .keepaliveExpiry ∨ c = .portReset p ∨
        (∃ v, c = .softReset p v ∨ c = .registerWrite p 0x17 v) ∨
          ∃ q, c = .forceDetach q ∧ (RequestsChecked s → q = s.supervisor)

/-- R119, R122, R125, R148, R155: what one port issues changes no other port's interface, command unit, session record, cap,
ticket counter or PRSTn pin, but that a FORCE_DETACH departs its target. (Other words of another port's window can change: its
inbox by a note or a grant, and the words every window shares.) -/
def Obligations.OtherPortsUntouched : Prop :=
  ∀ (c : Instr) (p q : Port) (s t : State), issuer c = some p → q ≠ p → exec c s = .next t →
    t.interface q = s.interface q ∧ t.held q = s.held q ∧
    (t.pool q).cap = (s.pool q).cap ∧ (t.pool q).nextTicket = (s.pool q).nextTicket ∧
    (c ≠ .forceDetach p → t.unit q = s.unit q ∧ t.session q = s.session q) ∧
    (c = .forceDetach p →
      (t.session q).summary = (s.session q).summary ∧ (t.session q).keepalive = (s.session q).keepalive ∧
      (t.unit q).rcode = (s.unit q).rcode ∧ (t.unit q).lastCode = (s.unit q).lastCode ∧
      (t.unit q).inFlight.isSome = (s.unit q).inFlight.isSome)
end

