-- ==== Sys2Proof/Laws/State.lean ====
section
/-! SUPPORT. The small lemmas of the state's parts: for each replacement of a part, what it leaves of every field and part
(true by rfl), and what reading the same part back gives. -/

namespace Sys2Proof.Machine

/-! ### setInterface -/

@[simp] theorem State.setInterface_units (s : State) (p : Port) (x : PortInterface) : (s.setInterface p x).units = s.units := rfl
@[simp] theorem State.setInterface_locks (s : State) (p : Port) (x : PortInterface) : (s.setInterface p x).locks = s.locks := rfl
@[simp] theorem State.setInterface_freeLocks (s : State) (p : Port) (x : PortInterface) : (s.setInterface p x).freeLocks = s.freeLocks := rfl
@[simp] theorem State.setInterface_freeRecords (s : State) (p : Port) (x : PortInterface) : (s.setInterface p x).freeRecords = s.freeRecords := rfl
@[simp] theorem State.setInterface_poolPorts (s : State) (p : Port) (x : PortInterface) : (s.setInterface p x).poolPorts = s.poolPorts := rfl
@[simp] theorem State.setInterface_deadlines (s : State) (p : Port) (x : PortInterface) : (s.setInterface p x).deadlines = s.deadlines := rfl
@[simp] theorem State.setInterface_tick (s : State) (p : Port) (x : PortInterface) : (s.setInterface p x).tick = s.tick := rfl
@[simp] theorem State.setInterface_prescale (s : State) (p : Port) (x : PortInterface) : (s.setInterface p x).prescale = s.prescale := rfl
@[simp] theorem State.setInterface_tickLength (s : State) (p : Port) (x : PortInterface) : (s.setInterface p x).tickLength = s.tickLength := rfl
@[simp] theorem State.setInterface_cycleCount (s : State) (p : Port) (x : PortInterface) : (s.setInterface p x).cycleCount = s.cycleCount := rfl
@[simp] theorem State.setInterface_inboxes (s : State) (p : Port) (x : PortInterface) : (s.setInterface p x).inboxes = s.inboxes := rfl
@[simp] theorem State.setInterface_barriers (s : State) (p : Port) (x : PortInterface) : (s.setInterface p x).barriers = s.barriers := rfl
@[simp] theorem State.setInterface_sessions (s : State) (p : Port) (x : PortInterface) : (s.setInterface p x).sessions = s.sessions := rfl
@[simp] theorem State.setInterface_supervisor (s : State) (p : Port) (x : PortInterface) : (s.setInterface p x).supervisor = s.supervisor := rfl
@[simp] theorem State.setInterface_engine (s : State) (p : Port) (x : PortInterface) : (s.setInterface p x).engine = s.engine := rfl
@[simp] theorem State.setInterface_departureQueue (s : State) (p : Port) (x : PortInterface) : (s.setInterface p x).departureQueue = s.departureQueue := rfl
@[simp] theorem State.setInterface_resetLow (s : State) (p : Port) (x : PortInterface) : (s.setInterface p x).resetLow = s.resetLow := rfl
@[simp] theorem State.setInterface_prstLow (s : State) (p : Port) (x : PortInterface) : (s.setInterface p x).prstLow = s.prstLow := rfl
@[simp] theorem State.setInterface_pending (s : State) (p : Port) (x : PortInterface) : (s.setInterface p x).pending = s.pending := rfl
@[simp] theorem State.setInterface_unit (s : State) (p : Port) (x : PortInterface) (k : Port) : (s.setInterface p x).unit k = s.unit k := rfl
@[simp] theorem State.setInterface_lock (s : State) (p : Port) (x : PortInterface) (k : LockIndex) : (s.setInterface p x).lock k = s.lock k := rfl
@[simp] theorem State.setInterface_pool (s : State) (p : Port) (x : PortInterface) (k : Port) : (s.setInterface p x).pool k = s.pool k := rfl
@[simp] theorem State.setInterface_inbox (s : State) (p : Port) (x : PortInterface) (k : Port) : (s.setInterface p x).inbox k = s.inbox k := rfl
@[simp] theorem State.setInterface_barrier (s : State) (p : Port) (x : PortInterface) (k : BarrierIndex) : (s.setInterface p x).barrier k = s.barrier k := rfl
@[simp] theorem State.setInterface_session (s : State) (p : Port) (x : PortInterface) (k : Port) : (s.setInterface p x).session k = s.session k := rfl
@[simp] theorem State.setInterface_held (s : State) (p : Port) (x : PortInterface) (k : Port) : (s.setInterface p x).held k = s.held k := rfl
@[simp] theorem State.setInterface_attached (s : State) (p : Port) (x : PortInterface) (k : Port) : (s.setInterface p x).attached k = s.attached k := rfl
@[simp] theorem State.setInterface_freeRoom (s : State) (p : Port) (x : PortInterface) (k : Port) : (s.setInterface p x).freeRoom k = s.freeRoom k := rfl
@[simp] theorem State.setInterface_handleOf (s : State) (p : Port) (x : PortInterface) (k : LockIndex) : (s.setInterface p x).handleOf k = s.handleOf k := rfl

/-- Reading a part back: the new value at its own place, the old ones elsewhere. -/
theorem State.setInterface_interface (s : State) (p : Port) (x : PortInterface) (k : Port) : (s.setInterface p x).interface k = if k = p then x else s.interface k := by
  simp [State.interface, State.setInterface, Vector.getElem_set, Fin.ext_iff, eq_comm]

@[simp] theorem State.setInterface_interface_self (s : State) (p : Port) (x : PortInterface) : (s.setInterface p x).interface p = x := by
  simp [State.setInterface_interface]

@[simp] theorem State.setInterface_interface_ne (s : State) (p : Port) (x : PortInterface) (k : Port) (h : k ≠ p) : (s.setInterface p x).interface k = s.interface k := by
  simp [State.setInterface_interface, h]

/-! ### setUnit -/

@[simp] theorem State.setUnit_interfaces (s : State) (p : Port) (x : CommandUnit) : (s.setUnit p x).interfaces = s.interfaces := rfl
@[simp] theorem State.setUnit_locks (s : State) (p : Port) (x : CommandUnit) : (s.setUnit p x).locks = s.locks := rfl
@[simp] theorem State.setUnit_freeLocks (s : State) (p : Port) (x : CommandUnit) : (s.setUnit p x).freeLocks = s.freeLocks := rfl
@[simp] theorem State.setUnit_freeRecords (s : State) (p : Port) (x : CommandUnit) : (s.setUnit p x).freeRecords = s.freeRecords := rfl
@[simp] theorem State.setUnit_poolPorts (s : State) (p : Port) (x : CommandUnit) : (s.setUnit p x).poolPorts = s.poolPorts := rfl
@[simp] theorem State.setUnit_deadlines (s : State) (p : Port) (x : CommandUnit) : (s.setUnit p x).deadlines = s.deadlines := rfl
@[simp] theorem State.setUnit_tick (s : State) (p : Port) (x : CommandUnit) : (s.setUnit p x).tick = s.tick := rfl
@[simp] theorem State.setUnit_prescale (s : State) (p : Port) (x : CommandUnit) : (s.setUnit p x).prescale = s.prescale := rfl
@[simp] theorem State.setUnit_tickLength (s : State) (p : Port) (x : CommandUnit) : (s.setUnit p x).tickLength = s.tickLength := rfl
@[simp] theorem State.setUnit_cycleCount (s : State) (p : Port) (x : CommandUnit) : (s.setUnit p x).cycleCount = s.cycleCount := rfl
@[simp] theorem State.setUnit_inboxes (s : State) (p : Port) (x : CommandUnit) : (s.setUnit p x).inboxes = s.inboxes := rfl
@[simp] theorem State.setUnit_barriers (s : State) (p : Port) (x : CommandUnit) : (s.setUnit p x).barriers = s.barriers := rfl
@[simp] theorem State.setUnit_sessions (s : State) (p : Port) (x : CommandUnit) : (s.setUnit p x).sessions = s.sessions := rfl
@[simp] theorem State.setUnit_supervisor (s : State) (p : Port) (x : CommandUnit) : (s.setUnit p x).supervisor = s.supervisor := rfl
@[simp] theorem State.setUnit_engine (s : State) (p : Port) (x : CommandUnit) : (s.setUnit p x).engine = s.engine := rfl
@[simp] theorem State.setUnit_departureQueue (s : State) (p : Port) (x : CommandUnit) : (s.setUnit p x).departureQueue = s.departureQueue := rfl
@[simp] theorem State.setUnit_resetLow (s : State) (p : Port) (x : CommandUnit) : (s.setUnit p x).resetLow = s.resetLow := rfl
@[simp] theorem State.setUnit_prstLow (s : State) (p : Port) (x : CommandUnit) : (s.setUnit p x).prstLow = s.prstLow := rfl
@[simp] theorem State.setUnit_pending (s : State) (p : Port) (x : CommandUnit) : (s.setUnit p x).pending = s.pending := rfl
@[simp] theorem State.setUnit_interface (s : State) (p : Port) (x : CommandUnit) (k : Port) : (s.setUnit p x).interface k = s.interface k := rfl
@[simp] theorem State.setUnit_lock (s : State) (p : Port) (x : CommandUnit) (k : LockIndex) : (s.setUnit p x).lock k = s.lock k := rfl
@[simp] theorem State.setUnit_pool (s : State) (p : Port) (x : CommandUnit) (k : Port) : (s.setUnit p x).pool k = s.pool k := rfl
@[simp] theorem State.setUnit_inbox (s : State) (p : Port) (x : CommandUnit) (k : Port) : (s.setUnit p x).inbox k = s.inbox k := rfl
@[simp] theorem State.setUnit_barrier (s : State) (p : Port) (x : CommandUnit) (k : BarrierIndex) : (s.setUnit p x).barrier k = s.barrier k := rfl
@[simp] theorem State.setUnit_session (s : State) (p : Port) (x : CommandUnit) (k : Port) : (s.setUnit p x).session k = s.session k := rfl
@[simp] theorem State.setUnit_held (s : State) (p : Port) (x : CommandUnit) (k : Port) : (s.setUnit p x).held k = s.held k := rfl
@[simp] theorem State.setUnit_attached (s : State) (p : Port) (x : CommandUnit) (k : Port) : (s.setUnit p x).attached k = s.attached k := rfl
@[simp] theorem State.setUnit_freeRoom (s : State) (p : Port) (x : CommandUnit) (k : Port) : (s.setUnit p x).freeRoom k = s.freeRoom k := rfl
@[simp] theorem State.setUnit_handleOf (s : State) (p : Port) (x : CommandUnit) (k : LockIndex) : (s.setUnit p x).handleOf k = s.handleOf k := rfl

/-- Reading a part back: the new value at its own place, the old ones elsewhere. -/
theorem State.setUnit_unit (s : State) (p : Port) (x : CommandUnit) (k : Port) : (s.setUnit p x).unit k = if k = p then x else s.unit k := by
  simp [State.unit, State.setUnit, Vector.getElem_set, Fin.ext_iff, eq_comm]

@[simp] theorem State.setUnit_unit_self (s : State) (p : Port) (x : CommandUnit) : (s.setUnit p x).unit p = x := by
  simp [State.setUnit_unit]

@[simp] theorem State.setUnit_unit_ne (s : State) (p : Port) (x : CommandUnit) (k : Port) (h : k ≠ p) : (s.setUnit p x).unit k = s.unit k := by
  simp [State.setUnit_unit, h]

/-! ### setLock -/

@[simp] theorem State.setLock_interfaces (s : State) (i : LockIndex) (x : LockEntry) : (s.setLock i x).interfaces = s.interfaces := rfl
@[simp] theorem State.setLock_units (s : State) (i : LockIndex) (x : LockEntry) : (s.setLock i x).units = s.units := rfl
@[simp] theorem State.setLock_freeLocks (s : State) (i : LockIndex) (x : LockEntry) : (s.setLock i x).freeLocks = s.freeLocks := rfl
@[simp] theorem State.setLock_freeRecords (s : State) (i : LockIndex) (x : LockEntry) : (s.setLock i x).freeRecords = s.freeRecords := rfl
@[simp] theorem State.setLock_poolPorts (s : State) (i : LockIndex) (x : LockEntry) : (s.setLock i x).poolPorts = s.poolPorts := rfl
@[simp] theorem State.setLock_deadlines (s : State) (i : LockIndex) (x : LockEntry) : (s.setLock i x).deadlines = s.deadlines := rfl
@[simp] theorem State.setLock_tick (s : State) (i : LockIndex) (x : LockEntry) : (s.setLock i x).tick = s.tick := rfl
@[simp] theorem State.setLock_prescale (s : State) (i : LockIndex) (x : LockEntry) : (s.setLock i x).prescale = s.prescale := rfl
@[simp] theorem State.setLock_tickLength (s : State) (i : LockIndex) (x : LockEntry) : (s.setLock i x).tickLength = s.tickLength := rfl
@[simp] theorem State.setLock_cycleCount (s : State) (i : LockIndex) (x : LockEntry) : (s.setLock i x).cycleCount = s.cycleCount := rfl
@[simp] theorem State.setLock_inboxes (s : State) (i : LockIndex) (x : LockEntry) : (s.setLock i x).inboxes = s.inboxes := rfl
@[simp] theorem State.setLock_barriers (s : State) (i : LockIndex) (x : LockEntry) : (s.setLock i x).barriers = s.barriers := rfl
@[simp] theorem State.setLock_sessions (s : State) (i : LockIndex) (x : LockEntry) : (s.setLock i x).sessions = s.sessions := rfl
@[simp] theorem State.setLock_supervisor (s : State) (i : LockIndex) (x : LockEntry) : (s.setLock i x).supervisor = s.supervisor := rfl
@[simp] theorem State.setLock_engine (s : State) (i : LockIndex) (x : LockEntry) : (s.setLock i x).engine = s.engine := rfl
@[simp] theorem State.setLock_departureQueue (s : State) (i : LockIndex) (x : LockEntry) : (s.setLock i x).departureQueue = s.departureQueue := rfl
@[simp] theorem State.setLock_resetLow (s : State) (i : LockIndex) (x : LockEntry) : (s.setLock i x).resetLow = s.resetLow := rfl
@[simp] theorem State.setLock_prstLow (s : State) (i : LockIndex) (x : LockEntry) : (s.setLock i x).prstLow = s.prstLow := rfl
@[simp] theorem State.setLock_pending (s : State) (i : LockIndex) (x : LockEntry) : (s.setLock i x).pending = s.pending := rfl
@[simp] theorem State.setLock_interface (s : State) (i : LockIndex) (x : LockEntry) (k : Port) : (s.setLock i x).interface k = s.interface k := rfl
@[simp] theorem State.setLock_unit (s : State) (i : LockIndex) (x : LockEntry) (k : Port) : (s.setLock i x).unit k = s.unit k := rfl
@[simp] theorem State.setLock_pool (s : State) (i : LockIndex) (x : LockEntry) (k : Port) : (s.setLock i x).pool k = s.pool k := rfl
@[simp] theorem State.setLock_inbox (s : State) (i : LockIndex) (x : LockEntry) (k : Port) : (s.setLock i x).inbox k = s.inbox k := rfl
@[simp] theorem State.setLock_barrier (s : State) (i : LockIndex) (x : LockEntry) (k : BarrierIndex) : (s.setLock i x).barrier k = s.barrier k := rfl
@[simp] theorem State.setLock_session (s : State) (i : LockIndex) (x : LockEntry) (k : Port) : (s.setLock i x).session k = s.session k := rfl
@[simp] theorem State.setLock_held (s : State) (i : LockIndex) (x : LockEntry) (k : Port) : (s.setLock i x).held k = s.held k := rfl
@[simp] theorem State.setLock_attached (s : State) (i : LockIndex) (x : LockEntry) (k : Port) : (s.setLock i x).attached k = s.attached k := rfl
@[simp] theorem State.setLock_freeRoom (s : State) (i : LockIndex) (x : LockEntry) (k : Port) : (s.setLock i x).freeRoom k = s.freeRoom k := rfl

/-- Reading a part back: the new value at its own place, the old ones elsewhere. -/
theorem State.setLock_lock (s : State) (i : LockIndex) (x : LockEntry) (k : LockIndex) : (s.setLock i x).lock k = if k = i then x else s.lock k := by
  simp [State.lock, State.setLock, Vector.getElem_set, Fin.ext_iff, eq_comm]

@[simp] theorem State.setLock_lock_self (s : State) (i : LockIndex) (x : LockEntry) : (s.setLock i x).lock i = x := by
  simp [State.setLock_lock]

@[simp] theorem State.setLock_lock_ne (s : State) (i : LockIndex) (x : LockEntry) (k : LockIndex) (h : k ≠ i) : (s.setLock i x).lock k = s.lock k := by
  simp [State.setLock_lock, h]

/-! ### setPool -/

@[simp] theorem State.setPool_interfaces (s : State) (p : Port) (x : PoolPort) : (s.setPool p x).interfaces = s.interfaces := rfl
@[simp] theorem State.setPool_units (s : State) (p : Port) (x : PoolPort) : (s.setPool p x).units = s.units := rfl
@[simp] theorem State.setPool_locks (s : State) (p : Port) (x : PoolPort) : (s.setPool p x).locks = s.locks := rfl
@[simp] theorem State.setPool_freeLocks (s : State) (p : Port) (x : PoolPort) : (s.setPool p x).freeLocks = s.freeLocks := rfl
@[simp] theorem State.setPool_freeRecords (s : State) (p : Port) (x : PoolPort) : (s.setPool p x).freeRecords = s.freeRecords := rfl
@[simp] theorem State.setPool_deadlines (s : State) (p : Port) (x : PoolPort) : (s.setPool p x).deadlines = s.deadlines := rfl
@[simp] theorem State.setPool_tick (s : State) (p : Port) (x : PoolPort) : (s.setPool p x).tick = s.tick := rfl
@[simp] theorem State.setPool_prescale (s : State) (p : Port) (x : PoolPort) : (s.setPool p x).prescale = s.prescale := rfl
@[simp] theorem State.setPool_tickLength (s : State) (p : Port) (x : PoolPort) : (s.setPool p x).tickLength = s.tickLength := rfl
@[simp] theorem State.setPool_cycleCount (s : State) (p : Port) (x : PoolPort) : (s.setPool p x).cycleCount = s.cycleCount := rfl
@[simp] theorem State.setPool_inboxes (s : State) (p : Port) (x : PoolPort) : (s.setPool p x).inboxes = s.inboxes := rfl
@[simp] theorem State.setPool_barriers (s : State) (p : Port) (x : PoolPort) : (s.setPool p x).barriers = s.barriers := rfl
@[simp] theorem State.setPool_sessions (s : State) (p : Port) (x : PoolPort) : (s.setPool p x).sessions = s.sessions := rfl
@[simp] theorem State.setPool_supervisor (s : State) (p : Port) (x : PoolPort) : (s.setPool p x).supervisor = s.supervisor := rfl
@[simp] theorem State.setPool_engine (s : State) (p : Port) (x : PoolPort) : (s.setPool p x).engine = s.engine := rfl
@[simp] theorem State.setPool_departureQueue (s : State) (p : Port) (x : PoolPort) : (s.setPool p x).departureQueue = s.departureQueue := rfl
@[simp] theorem State.setPool_resetLow (s : State) (p : Port) (x : PoolPort) : (s.setPool p x).resetLow = s.resetLow := rfl
@[simp] theorem State.setPool_prstLow (s : State) (p : Port) (x : PoolPort) : (s.setPool p x).prstLow = s.prstLow := rfl
@[simp] theorem State.setPool_pending (s : State) (p : Port) (x : PoolPort) : (s.setPool p x).pending = s.pending := rfl
@[simp] theorem State.setPool_interface (s : State) (p : Port) (x : PoolPort) (k : Port) : (s.setPool p x).interface k = s.interface k := rfl
@[simp] theorem State.setPool_unit (s : State) (p : Port) (x : PoolPort) (k : Port) : (s.setPool p x).unit k = s.unit k := rfl
@[simp] theorem State.setPool_lock (s : State) (p : Port) (x : PoolPort) (k : LockIndex) : (s.setPool p x).lock k = s.lock k := rfl
@[simp] theorem State.setPool_inbox (s : State) (p : Port) (x : PoolPort) (k : Port) : (s.setPool p x).inbox k = s.inbox k := rfl
@[simp] theorem State.setPool_barrier (s : State) (p : Port) (x : PoolPort) (k : BarrierIndex) : (s.setPool p x).barrier k = s.barrier k := rfl
@[simp] theorem State.setPool_session (s : State) (p : Port) (x : PoolPort) (k : Port) : (s.setPool p x).session k = s.session k := rfl
@[simp] theorem State.setPool_held (s : State) (p : Port) (x : PoolPort) (k : Port) : (s.setPool p x).held k = s.held k := rfl
@[simp] theorem State.setPool_attached (s : State) (p : Port) (x : PoolPort) (k : Port) : (s.setPool p x).attached k = s.attached k := rfl
@[simp] theorem State.setPool_freeRoom (s : State) (p : Port) (x : PoolPort) (k : Port) : (s.setPool p x).freeRoom k = s.freeRoom k := rfl
@[simp] theorem State.setPool_handleOf (s : State) (p : Port) (x : PoolPort) (k : LockIndex) : (s.setPool p x).handleOf k = s.handleOf k := rfl

/-- Reading a part back: the new value at its own place, the old ones elsewhere. -/
theorem State.setPool_pool (s : State) (p : Port) (x : PoolPort) (k : Port) : (s.setPool p x).pool k = if k = p then x else s.pool k := by
  simp [State.pool, State.setPool, Vector.getElem_set, Fin.ext_iff, eq_comm]

@[simp] theorem State.setPool_pool_self (s : State) (p : Port) (x : PoolPort) : (s.setPool p x).pool p = x := by
  simp [State.setPool_pool]

@[simp] theorem State.setPool_pool_ne (s : State) (p : Port) (x : PoolPort) (k : Port) (h : k ≠ p) : (s.setPool p x).pool k = s.pool k := by
  simp [State.setPool_pool, h]

/-! ### setInbox -/

@[simp] theorem State.setInbox_interfaces (s : State) (p : Port) (x : Inbox) : (s.setInbox p x).interfaces = s.interfaces := rfl
@[simp] theorem State.setInbox_units (s : State) (p : Port) (x : Inbox) : (s.setInbox p x).units = s.units := rfl
@[simp] theorem State.setInbox_locks (s : State) (p : Port) (x : Inbox) : (s.setInbox p x).locks = s.locks := rfl
@[simp] theorem State.setInbox_freeLocks (s : State) (p : Port) (x : Inbox) : (s.setInbox p x).freeLocks = s.freeLocks := rfl
@[simp] theorem State.setInbox_freeRecords (s : State) (p : Port) (x : Inbox) : (s.setInbox p x).freeRecords = s.freeRecords := rfl
@[simp] theorem State.setInbox_poolPorts (s : State) (p : Port) (x : Inbox) : (s.setInbox p x).poolPorts = s.poolPorts := rfl
@[simp] theorem State.setInbox_deadlines (s : State) (p : Port) (x : Inbox) : (s.setInbox p x).deadlines = s.deadlines := rfl
@[simp] theorem State.setInbox_tick (s : State) (p : Port) (x : Inbox) : (s.setInbox p x).tick = s.tick := rfl
@[simp] theorem State.setInbox_prescale (s : State) (p : Port) (x : Inbox) : (s.setInbox p x).prescale = s.prescale := rfl
@[simp] theorem State.setInbox_tickLength (s : State) (p : Port) (x : Inbox) : (s.setInbox p x).tickLength = s.tickLength := rfl
@[simp] theorem State.setInbox_cycleCount (s : State) (p : Port) (x : Inbox) : (s.setInbox p x).cycleCount = s.cycleCount := rfl
@[simp] theorem State.setInbox_barriers (s : State) (p : Port) (x : Inbox) : (s.setInbox p x).barriers = s.barriers := rfl
@[simp] theorem State.setInbox_sessions (s : State) (p : Port) (x : Inbox) : (s.setInbox p x).sessions = s.sessions := rfl
@[simp] theorem State.setInbox_supervisor (s : State) (p : Port) (x : Inbox) : (s.setInbox p x).supervisor = s.supervisor := rfl
@[simp] theorem State.setInbox_engine (s : State) (p : Port) (x : Inbox) : (s.setInbox p x).engine = s.engine := rfl
@[simp] theorem State.setInbox_departureQueue (s : State) (p : Port) (x : Inbox) : (s.setInbox p x).departureQueue = s.departureQueue := rfl
@[simp] theorem State.setInbox_resetLow (s : State) (p : Port) (x : Inbox) : (s.setInbox p x).resetLow = s.resetLow := rfl
@[simp] theorem State.setInbox_prstLow (s : State) (p : Port) (x : Inbox) : (s.setInbox p x).prstLow = s.prstLow := rfl
@[simp] theorem State.setInbox_pending (s : State) (p : Port) (x : Inbox) : (s.setInbox p x).pending = s.pending := rfl
@[simp] theorem State.setInbox_interface (s : State) (p : Port) (x : Inbox) (k : Port) : (s.setInbox p x).interface k = s.interface k := rfl
@[simp] theorem State.setInbox_unit (s : State) (p : Port) (x : Inbox) (k : Port) : (s.setInbox p x).unit k = s.unit k := rfl
@[simp] theorem State.setInbox_lock (s : State) (p : Port) (x : Inbox) (k : LockIndex) : (s.setInbox p x).lock k = s.lock k := rfl
@[simp] theorem State.setInbox_pool (s : State) (p : Port) (x : Inbox) (k : Port) : (s.setInbox p x).pool k = s.pool k := rfl
@[simp] theorem State.setInbox_barrier (s : State) (p : Port) (x : Inbox) (k : BarrierIndex) : (s.setInbox p x).barrier k = s.barrier k := rfl
@[simp] theorem State.setInbox_session (s : State) (p : Port) (x : Inbox) (k : Port) : (s.setInbox p x).session k = s.session k := rfl
@[simp] theorem State.setInbox_held (s : State) (p : Port) (x : Inbox) (k : Port) : (s.setInbox p x).held k = s.held k := rfl
@[simp] theorem State.setInbox_attached (s : State) (p : Port) (x : Inbox) (k : Port) : (s.setInbox p x).attached k = s.attached k := rfl
@[simp] theorem State.setInbox_handleOf (s : State) (p : Port) (x : Inbox) (k : LockIndex) : (s.setInbox p x).handleOf k = s.handleOf k := rfl

/-- Reading a part back: the new value at its own place, the old ones elsewhere. -/
theorem State.setInbox_inbox (s : State) (p : Port) (x : Inbox) (k : Port) : (s.setInbox p x).inbox k = if k = p then x else s.inbox k := by
  simp [State.inbox, State.setInbox, Vector.getElem_set, Fin.ext_iff, eq_comm]

@[simp] theorem State.setInbox_inbox_self (s : State) (p : Port) (x : Inbox) : (s.setInbox p x).inbox p = x := by
  simp [State.setInbox_inbox]

@[simp] theorem State.setInbox_inbox_ne (s : State) (p : Port) (x : Inbox) (k : Port) (h : k ≠ p) : (s.setInbox p x).inbox k = s.inbox k := by
  simp [State.setInbox_inbox, h]

/-! ### setBarrier -/

@[simp] theorem State.setBarrier_interfaces (s : State) (b : BarrierIndex) (x : Barrier) : (s.setBarrier b x).interfaces = s.interfaces := rfl
@[simp] theorem State.setBarrier_units (s : State) (b : BarrierIndex) (x : Barrier) : (s.setBarrier b x).units = s.units := rfl
@[simp] theorem State.setBarrier_locks (s : State) (b : BarrierIndex) (x : Barrier) : (s.setBarrier b x).locks = s.locks := rfl
@[simp] theorem State.setBarrier_freeLocks (s : State) (b : BarrierIndex) (x : Barrier) : (s.setBarrier b x).freeLocks = s.freeLocks := rfl
@[simp] theorem State.setBarrier_freeRecords (s : State) (b : BarrierIndex) (x : Barrier) : (s.setBarrier b x).freeRecords = s.freeRecords := rfl
@[simp] theorem State.setBarrier_poolPorts (s : State) (b : BarrierIndex) (x : Barrier) : (s.setBarrier b x).poolPorts = s.poolPorts := rfl
@[simp] theorem State.setBarrier_deadlines (s : State) (b : BarrierIndex) (x : Barrier) : (s.setBarrier b x).deadlines = s.deadlines := rfl
@[simp] theorem State.setBarrier_tick (s : State) (b : BarrierIndex) (x : Barrier) : (s.setBarrier b x).tick = s.tick := rfl
@[simp] theorem State.setBarrier_prescale (s : State) (b : BarrierIndex) (x : Barrier) : (s.setBarrier b x).prescale = s.prescale := rfl
@[simp] theorem State.setBarrier_tickLength (s : State) (b : BarrierIndex) (x : Barrier) : (s.setBarrier b x).tickLength = s.tickLength := rfl
@[simp] theorem State.setBarrier_cycleCount (s : State) (b : BarrierIndex) (x : Barrier) : (s.setBarrier b x).cycleCount = s.cycleCount := rfl
@[simp] theorem State.setBarrier_inboxes (s : State) (b : BarrierIndex) (x : Barrier) : (s.setBarrier b x).inboxes = s.inboxes := rfl
@[simp] theorem State.setBarrier_sessions (s : State) (b : BarrierIndex) (x : Barrier) : (s.setBarrier b x).sessions = s.sessions := rfl
@[simp] theorem State.setBarrier_supervisor (s : State) (b : BarrierIndex) (x : Barrier) : (s.setBarrier b x).supervisor = s.supervisor := rfl
@[simp] theorem State.setBarrier_engine (s : State) (b : BarrierIndex) (x : Barrier) : (s.setBarrier b x).engine = s.engine := rfl
@[simp] theorem State.setBarrier_departureQueue (s : State) (b : BarrierIndex) (x : Barrier) : (s.setBarrier b x).departureQueue = s.departureQueue := rfl
@[simp] theorem State.setBarrier_resetLow (s : State) (b : BarrierIndex) (x : Barrier) : (s.setBarrier b x).resetLow = s.resetLow := rfl
@[simp] theorem State.setBarrier_prstLow (s : State) (b : BarrierIndex) (x : Barrier) : (s.setBarrier b x).prstLow = s.prstLow := rfl
@[simp] theorem State.setBarrier_pending (s : State) (b : BarrierIndex) (x : Barrier) : (s.setBarrier b x).pending = s.pending := rfl
@[simp] theorem State.setBarrier_interface (s : State) (b : BarrierIndex) (x : Barrier) (k : Port) : (s.setBarrier b x).interface k = s.interface k := rfl
@[simp] theorem State.setBarrier_unit (s : State) (b : BarrierIndex) (x : Barrier) (k : Port) : (s.setBarrier b x).unit k = s.unit k := rfl
@[simp] theorem State.setBarrier_lock (s : State) (b : BarrierIndex) (x : Barrier) (k : LockIndex) : (s.setBarrier b x).lock k = s.lock k := rfl
@[simp] theorem State.setBarrier_pool (s : State) (b : BarrierIndex) (x : Barrier) (k : Port) : (s.setBarrier b x).pool k = s.pool k := rfl
@[simp] theorem State.setBarrier_inbox (s : State) (b : BarrierIndex) (x : Barrier) (k : Port) : (s.setBarrier b x).inbox k = s.inbox k := rfl
@[simp] theorem State.setBarrier_session (s : State) (b : BarrierIndex) (x : Barrier) (k : Port) : (s.setBarrier b x).session k = s.session k := rfl
@[simp] theorem State.setBarrier_held (s : State) (b : BarrierIndex) (x : Barrier) (k : Port) : (s.setBarrier b x).held k = s.held k := rfl
@[simp] theorem State.setBarrier_attached (s : State) (b : BarrierIndex) (x : Barrier) (k : Port) : (s.setBarrier b x).attached k = s.attached k := rfl
@[simp] theorem State.setBarrier_freeRoom (s : State) (b : BarrierIndex) (x : Barrier) (k : Port) : (s.setBarrier b x).freeRoom k = s.freeRoom k := rfl
@[simp] theorem State.setBarrier_handleOf (s : State) (b : BarrierIndex) (x : Barrier) (k : LockIndex) : (s.setBarrier b x).handleOf k = s.handleOf k := rfl

/-- Reading a part back: the new value at its own place, the old ones elsewhere. -/
theorem State.setBarrier_barrier (s : State) (b : BarrierIndex) (x : Barrier) (k : BarrierIndex) : (s.setBarrier b x).barrier k = if k = b then x else s.barrier k := by
  simp [State.barrier, State.setBarrier, Vector.getElem_set, Fin.ext_iff, eq_comm]

@[simp] theorem State.setBarrier_barrier_self (s : State) (b : BarrierIndex) (x : Barrier) : (s.setBarrier b x).barrier b = x := by
  simp [State.setBarrier_barrier]

@[simp] theorem State.setBarrier_barrier_ne (s : State) (b : BarrierIndex) (x : Barrier) (k : BarrierIndex) (h : k ≠ b) : (s.setBarrier b x).barrier k = s.barrier k := by
  simp [State.setBarrier_barrier, h]

/-! ### setSession -/

@[simp] theorem State.setSession_interfaces (s : State) (p : Port) (x : Session) : (s.setSession p x).interfaces = s.interfaces := rfl
@[simp] theorem State.setSession_units (s : State) (p : Port) (x : Session) : (s.setSession p x).units = s.units := rfl
@[simp] theorem State.setSession_locks (s : State) (p : Port) (x : Session) : (s.setSession p x).locks = s.locks := rfl
@[simp] theorem State.setSession_freeLocks (s : State) (p : Port) (x : Session) : (s.setSession p x).freeLocks = s.freeLocks := rfl
@[simp] theorem State.setSession_freeRecords (s : State) (p : Port) (x : Session) : (s.setSession p x).freeRecords = s.freeRecords := rfl
@[simp] theorem State.setSession_poolPorts (s : State) (p : Port) (x : Session) : (s.setSession p x).poolPorts = s.poolPorts := rfl
@[simp] theorem State.setSession_deadlines (s : State) (p : Port) (x : Session) : (s.setSession p x).deadlines = s.deadlines := rfl
@[simp] theorem State.setSession_tick (s : State) (p : Port) (x : Session) : (s.setSession p x).tick = s.tick := rfl
@[simp] theorem State.setSession_prescale (s : State) (p : Port) (x : Session) : (s.setSession p x).prescale = s.prescale := rfl
@[simp] theorem State.setSession_tickLength (s : State) (p : Port) (x : Session) : (s.setSession p x).tickLength = s.tickLength := rfl
@[simp] theorem State.setSession_cycleCount (s : State) (p : Port) (x : Session) : (s.setSession p x).cycleCount = s.cycleCount := rfl
@[simp] theorem State.setSession_inboxes (s : State) (p : Port) (x : Session) : (s.setSession p x).inboxes = s.inboxes := rfl
@[simp] theorem State.setSession_barriers (s : State) (p : Port) (x : Session) : (s.setSession p x).barriers = s.barriers := rfl
@[simp] theorem State.setSession_supervisor (s : State) (p : Port) (x : Session) : (s.setSession p x).supervisor = s.supervisor := rfl
@[simp] theorem State.setSession_engine (s : State) (p : Port) (x : Session) : (s.setSession p x).engine = s.engine := rfl
@[simp] theorem State.setSession_departureQueue (s : State) (p : Port) (x : Session) : (s.setSession p x).departureQueue = s.departureQueue := rfl
@[simp] theorem State.setSession_resetLow (s : State) (p : Port) (x : Session) : (s.setSession p x).resetLow = s.resetLow := rfl
@[simp] theorem State.setSession_prstLow (s : State) (p : Port) (x : Session) : (s.setSession p x).prstLow = s.prstLow := rfl
@[simp] theorem State.setSession_pending (s : State) (p : Port) (x : Session) : (s.setSession p x).pending = s.pending := rfl
@[simp] theorem State.setSession_interface (s : State) (p : Port) (x : Session) (k : Port) : (s.setSession p x).interface k = s.interface k := rfl
@[simp] theorem State.setSession_unit (s : State) (p : Port) (x : Session) (k : Port) : (s.setSession p x).unit k = s.unit k := rfl
@[simp] theorem State.setSession_lock (s : State) (p : Port) (x : Session) (k : LockIndex) : (s.setSession p x).lock k = s.lock k := rfl
@[simp] theorem State.setSession_pool (s : State) (p : Port) (x : Session) (k : Port) : (s.setSession p x).pool k = s.pool k := rfl
@[simp] theorem State.setSession_inbox (s : State) (p : Port) (x : Session) (k : Port) : (s.setSession p x).inbox k = s.inbox k := rfl
@[simp] theorem State.setSession_barrier (s : State) (p : Port) (x : Session) (k : BarrierIndex) : (s.setSession p x).barrier k = s.barrier k := rfl
@[simp] theorem State.setSession_held (s : State) (p : Port) (x : Session) (k : Port) : (s.setSession p x).held k = s.held k := rfl
@[simp] theorem State.setSession_freeRoom (s : State) (p : Port) (x : Session) (k : Port) : (s.setSession p x).freeRoom k = s.freeRoom k := rfl
@[simp] theorem State.setSession_handleOf (s : State) (p : Port) (x : Session) (k : LockIndex) : (s.setSession p x).handleOf k = s.handleOf k := rfl

/-- Reading a part back: the new value at its own place, the old ones elsewhere. -/
theorem State.setSession_session (s : State) (p : Port) (x : Session) (k : Port) : (s.setSession p x).session k = if k = p then x else s.session k := by
  simp [State.session, State.setSession, Vector.getElem_set, Fin.ext_iff, eq_comm]

@[simp] theorem State.setSession_session_self (s : State) (p : Port) (x : Session) : (s.setSession p x).session p = x := by
  simp [State.setSession_session]

@[simp] theorem State.setSession_session_ne (s : State) (p : Port) (x : Session) (k : Port) (h : k ≠ p) : (s.setSession p x).session k = s.session k := by
  simp [State.setSession_session, h]

/-! ### setHeld -/

@[simp] theorem State.setHeld_interfaces (s : State) (p : Port) (x : Bool) : (s.setHeld p x).interfaces = s.interfaces := rfl
@[simp] theorem State.setHeld_units (s : State) (p : Port) (x : Bool) : (s.setHeld p x).units = s.units := rfl
@[simp] theorem State.setHeld_locks (s : State) (p : Port) (x : Bool) : (s.setHeld p x).locks = s.locks := rfl
@[simp] theorem State.setHeld_freeLocks (s : State) (p : Port) (x : Bool) : (s.setHeld p x).freeLocks = s.freeLocks := rfl
@[simp] theorem State.setHeld_freeRecords (s : State) (p : Port) (x : Bool) : (s.setHeld p x).freeRecords = s.freeRecords := rfl
@[simp] theorem State.setHeld_poolPorts (s : State) (p : Port) (x : Bool) : (s.setHeld p x).poolPorts = s.poolPorts := rfl
@[simp] theorem State.setHeld_deadlines (s : State) (p : Port) (x : Bool) : (s.setHeld p x).deadlines = s.deadlines := rfl
@[simp] theorem State.setHeld_tick (s : State) (p : Port) (x : Bool) : (s.setHeld p x).tick = s.tick := rfl
@[simp] theorem State.setHeld_prescale (s : State) (p : Port) (x : Bool) : (s.setHeld p x).prescale = s.prescale := rfl
@[simp] theorem State.setHeld_tickLength (s : State) (p : Port) (x : Bool) : (s.setHeld p x).tickLength = s.tickLength := rfl
@[simp] theorem State.setHeld_cycleCount (s : State) (p : Port) (x : Bool) : (s.setHeld p x).cycleCount = s.cycleCount := rfl
@[simp] theorem State.setHeld_inboxes (s : State) (p : Port) (x : Bool) : (s.setHeld p x).inboxes = s.inboxes := rfl
@[simp] theorem State.setHeld_barriers (s : State) (p : Port) (x : Bool) : (s.setHeld p x).barriers = s.barriers := rfl
@[simp] theorem State.setHeld_sessions (s : State) (p : Port) (x : Bool) : (s.setHeld p x).sessions = s.sessions := rfl
@[simp] theorem State.setHeld_supervisor (s : State) (p : Port) (x : Bool) : (s.setHeld p x).supervisor = s.supervisor := rfl
@[simp] theorem State.setHeld_engine (s : State) (p : Port) (x : Bool) : (s.setHeld p x).engine = s.engine := rfl
@[simp] theorem State.setHeld_departureQueue (s : State) (p : Port) (x : Bool) : (s.setHeld p x).departureQueue = s.departureQueue := rfl
@[simp] theorem State.setHeld_resetLow (s : State) (p : Port) (x : Bool) : (s.setHeld p x).resetLow = s.resetLow := rfl
@[simp] theorem State.setHeld_pending (s : State) (p : Port) (x : Bool) : (s.setHeld p x).pending = s.pending := rfl
@[simp] theorem State.setHeld_interface (s : State) (p : Port) (x : Bool) (k : Port) : (s.setHeld p x).interface k = s.interface k := rfl
@[simp] theorem State.setHeld_unit (s : State) (p : Port) (x : Bool) (k : Port) : (s.setHeld p x).unit k = s.unit k := rfl
@[simp] theorem State.setHeld_lock (s : State) (p : Port) (x : Bool) (k : LockIndex) : (s.setHeld p x).lock k = s.lock k := rfl
@[simp] theorem State.setHeld_pool (s : State) (p : Port) (x : Bool) (k : Port) : (s.setHeld p x).pool k = s.pool k := rfl
@[simp] theorem State.setHeld_inbox (s : State) (p : Port) (x : Bool) (k : Port) : (s.setHeld p x).inbox k = s.inbox k := rfl
@[simp] theorem State.setHeld_barrier (s : State) (p : Port) (x : Bool) (k : BarrierIndex) : (s.setHeld p x).barrier k = s.barrier k := rfl
@[simp] theorem State.setHeld_session (s : State) (p : Port) (x : Bool) (k : Port) : (s.setHeld p x).session k = s.session k := rfl
@[simp] theorem State.setHeld_attached (s : State) (p : Port) (x : Bool) (k : Port) : (s.setHeld p x).attached k = s.attached k := rfl
@[simp] theorem State.setHeld_freeRoom (s : State) (p : Port) (x : Bool) (k : Port) : (s.setHeld p x).freeRoom k = s.freeRoom k := rfl
@[simp] theorem State.setHeld_handleOf (s : State) (p : Port) (x : Bool) (k : LockIndex) : (s.setHeld p x).handleOf k = s.handleOf k := rfl

/-- Reading a part back: the new value at its own place, the old ones elsewhere. -/
theorem State.setHeld_held (s : State) (p : Port) (x : Bool) (k : Port) : (s.setHeld p x).held k = if k = p then x else s.held k := by
  simp [State.held, State.setHeld, Vector.getElem_set, Fin.ext_iff, eq_comm]

@[simp] theorem State.setHeld_held_self (s : State) (p : Port) (x : Bool) : (s.setHeld p x).held p = x := by
  simp [State.setHeld_held]

@[simp] theorem State.setHeld_held_ne (s : State) (p : Port) (x : Bool) (k : Port) (h : k ≠ p) : (s.setHeld p x).held k = s.held k := by
  simp [State.setHeld_held, h]

end Sys2Proof.Machine
end

