-- ==== Sys2Proof/Laws/Ops.lean ====
section
/-! SUPPORT. What each shared operation leaves as it was, part by part, so that a proof about a command cites these and
does not unfold the operation. -/

namespace Sys2Proof.Machine

/-! ### insertDeadline -/

@[simp] theorem State.insertDeadline_interfaces (s : State) (o : DeadlineObject) (t : Ticks) : (s.insertDeadline o t).interfaces = s.interfaces := rfl
@[simp] theorem State.insertDeadline_units (s : State) (o : DeadlineObject) (t : Ticks) : (s.insertDeadline o t).units = s.units := rfl
@[simp] theorem State.insertDeadline_locks (s : State) (o : DeadlineObject) (t : Ticks) : (s.insertDeadline o t).locks = s.locks := rfl
@[simp] theorem State.insertDeadline_freeLocks (s : State) (o : DeadlineObject) (t : Ticks) : (s.insertDeadline o t).freeLocks = s.freeLocks := rfl
@[simp] theorem State.insertDeadline_freeRecords (s : State) (o : DeadlineObject) (t : Ticks) : (s.insertDeadline o t).freeRecords = s.freeRecords := rfl
@[simp] theorem State.insertDeadline_poolPorts (s : State) (o : DeadlineObject) (t : Ticks) : (s.insertDeadline o t).poolPorts = s.poolPorts := rfl
@[simp] theorem State.insertDeadline_tick (s : State) (o : DeadlineObject) (t : Ticks) : (s.insertDeadline o t).tick = s.tick := rfl
@[simp] theorem State.insertDeadline_prescale (s : State) (o : DeadlineObject) (t : Ticks) : (s.insertDeadline o t).prescale = s.prescale := rfl
@[simp] theorem State.insertDeadline_tickLength (s : State) (o : DeadlineObject) (t : Ticks) : (s.insertDeadline o t).tickLength = s.tickLength := rfl
@[simp] theorem State.insertDeadline_cycleCount (s : State) (o : DeadlineObject) (t : Ticks) : (s.insertDeadline o t).cycleCount = s.cycleCount := rfl
@[simp] theorem State.insertDeadline_inboxes (s : State) (o : DeadlineObject) (t : Ticks) : (s.insertDeadline o t).inboxes = s.inboxes := rfl
@[simp] theorem State.insertDeadline_barriers (s : State) (o : DeadlineObject) (t : Ticks) : (s.insertDeadline o t).barriers = s.barriers := rfl
@[simp] theorem State.insertDeadline_sessions (s : State) (o : DeadlineObject) (t : Ticks) : (s.insertDeadline o t).sessions = s.sessions := rfl
@[simp] theorem State.insertDeadline_supervisor (s : State) (o : DeadlineObject) (t : Ticks) : (s.insertDeadline o t).supervisor = s.supervisor := rfl
@[simp] theorem State.insertDeadline_engine (s : State) (o : DeadlineObject) (t : Ticks) : (s.insertDeadline o t).engine = s.engine := rfl
@[simp] theorem State.insertDeadline_departureQueue (s : State) (o : DeadlineObject) (t : Ticks) : (s.insertDeadline o t).departureQueue = s.departureQueue := rfl
@[simp] theorem State.insertDeadline_resetLow (s : State) (o : DeadlineObject) (t : Ticks) : (s.insertDeadline o t).resetLow = s.resetLow := rfl
@[simp] theorem State.insertDeadline_prstLow (s : State) (o : DeadlineObject) (t : Ticks) : (s.insertDeadline o t).prstLow = s.prstLow := rfl
@[simp] theorem State.insertDeadline_pending (s : State) (o : DeadlineObject) (t : Ticks) : (s.insertDeadline o t).pending = s.pending := rfl
@[simp] theorem State.insertDeadline_interface (s : State) (o : DeadlineObject) (t : Ticks) (k : Port) : (s.insertDeadline o t).interface k = s.interface k := rfl
@[simp] theorem State.insertDeadline_unit (s : State) (o : DeadlineObject) (t : Ticks) (k : Port) : (s.insertDeadline o t).unit k = s.unit k := rfl
@[simp] theorem State.insertDeadline_lock (s : State) (o : DeadlineObject) (t : Ticks) (k : LockIndex) : (s.insertDeadline o t).lock k = s.lock k := rfl
@[simp] theorem State.insertDeadline_pool (s : State) (o : DeadlineObject) (t : Ticks) (k : Port) : (s.insertDeadline o t).pool k = s.pool k := rfl
@[simp] theorem State.insertDeadline_inbox (s : State) (o : DeadlineObject) (t : Ticks) (k : Port) : (s.insertDeadline o t).inbox k = s.inbox k := rfl
@[simp] theorem State.insertDeadline_barrier (s : State) (o : DeadlineObject) (t : Ticks) (k : BarrierIndex) : (s.insertDeadline o t).barrier k = s.barrier k := rfl
@[simp] theorem State.insertDeadline_session (s : State) (o : DeadlineObject) (t : Ticks) (k : Port) : (s.insertDeadline o t).session k = s.session k := rfl
@[simp] theorem State.insertDeadline_held (s : State) (o : DeadlineObject) (t : Ticks) (k : Port) : (s.insertDeadline o t).held k = s.held k := rfl
@[simp] theorem State.insertDeadline_attached (s : State) (o : DeadlineObject) (t : Ticks) (k : Port) : (s.insertDeadline o t).attached k = s.attached k := rfl
@[simp] theorem State.insertDeadline_freeRoom (s : State) (o : DeadlineObject) (t : Ticks) (k : Port) : (s.insertDeadline o t).freeRoom k = s.freeRoom k := rfl
@[simp] theorem State.insertDeadline_handleOf (s : State) (o : DeadlineObject) (t : Ticks) (k : LockIndex) : (s.insertDeadline o t).handleOf k = s.handleOf k := rfl

/-! ### removeDeadline -/

@[simp] theorem State.removeDeadline_interfaces (s : State) (o : DeadlineObject) : (s.removeDeadline o).interfaces = s.interfaces := rfl
@[simp] theorem State.removeDeadline_units (s : State) (o : DeadlineObject) : (s.removeDeadline o).units = s.units := rfl
@[simp] theorem State.removeDeadline_locks (s : State) (o : DeadlineObject) : (s.removeDeadline o).locks = s.locks := rfl
@[simp] theorem State.removeDeadline_freeLocks (s : State) (o : DeadlineObject) : (s.removeDeadline o).freeLocks = s.freeLocks := rfl
@[simp] theorem State.removeDeadline_freeRecords (s : State) (o : DeadlineObject) : (s.removeDeadline o).freeRecords = s.freeRecords := rfl
@[simp] theorem State.removeDeadline_poolPorts (s : State) (o : DeadlineObject) : (s.removeDeadline o).poolPorts = s.poolPorts := rfl
@[simp] theorem State.removeDeadline_tick (s : State) (o : DeadlineObject) : (s.removeDeadline o).tick = s.tick := rfl
@[simp] theorem State.removeDeadline_prescale (s : State) (o : DeadlineObject) : (s.removeDeadline o).prescale = s.prescale := rfl
@[simp] theorem State.removeDeadline_tickLength (s : State) (o : DeadlineObject) : (s.removeDeadline o).tickLength = s.tickLength := rfl
@[simp] theorem State.removeDeadline_cycleCount (s : State) (o : DeadlineObject) : (s.removeDeadline o).cycleCount = s.cycleCount := rfl
@[simp] theorem State.removeDeadline_inboxes (s : State) (o : DeadlineObject) : (s.removeDeadline o).inboxes = s.inboxes := rfl
@[simp] theorem State.removeDeadline_barriers (s : State) (o : DeadlineObject) : (s.removeDeadline o).barriers = s.barriers := rfl
@[simp] theorem State.removeDeadline_sessions (s : State) (o : DeadlineObject) : (s.removeDeadline o).sessions = s.sessions := rfl
@[simp] theorem State.removeDeadline_supervisor (s : State) (o : DeadlineObject) : (s.removeDeadline o).supervisor = s.supervisor := rfl
@[simp] theorem State.removeDeadline_engine (s : State) (o : DeadlineObject) : (s.removeDeadline o).engine = s.engine := rfl
@[simp] theorem State.removeDeadline_departureQueue (s : State) (o : DeadlineObject) : (s.removeDeadline o).departureQueue = s.departureQueue := rfl
@[simp] theorem State.removeDeadline_resetLow (s : State) (o : DeadlineObject) : (s.removeDeadline o).resetLow = s.resetLow := rfl
@[simp] theorem State.removeDeadline_prstLow (s : State) (o : DeadlineObject) : (s.removeDeadline o).prstLow = s.prstLow := rfl
@[simp] theorem State.removeDeadline_pending (s : State) (o : DeadlineObject) : (s.removeDeadline o).pending = s.pending := rfl
@[simp] theorem State.removeDeadline_interface (s : State) (o : DeadlineObject) (k : Port) : (s.removeDeadline o).interface k = s.interface k := rfl
@[simp] theorem State.removeDeadline_unit (s : State) (o : DeadlineObject) (k : Port) : (s.removeDeadline o).unit k = s.unit k := rfl
@[simp] theorem State.removeDeadline_lock (s : State) (o : DeadlineObject) (k : LockIndex) : (s.removeDeadline o).lock k = s.lock k := rfl
@[simp] theorem State.removeDeadline_pool (s : State) (o : DeadlineObject) (k : Port) : (s.removeDeadline o).pool k = s.pool k := rfl
@[simp] theorem State.removeDeadline_inbox (s : State) (o : DeadlineObject) (k : Port) : (s.removeDeadline o).inbox k = s.inbox k := rfl
@[simp] theorem State.removeDeadline_barrier (s : State) (o : DeadlineObject) (k : BarrierIndex) : (s.removeDeadline o).barrier k = s.barrier k := rfl
@[simp] theorem State.removeDeadline_session (s : State) (o : DeadlineObject) (k : Port) : (s.removeDeadline o).session k = s.session k := rfl
@[simp] theorem State.removeDeadline_held (s : State) (o : DeadlineObject) (k : Port) : (s.removeDeadline o).held k = s.held k := rfl
@[simp] theorem State.removeDeadline_attached (s : State) (o : DeadlineObject) (k : Port) : (s.removeDeadline o).attached k = s.attached k := rfl
@[simp] theorem State.removeDeadline_freeRoom (s : State) (o : DeadlineObject) (k : Port) : (s.removeDeadline o).freeRoom k = s.freeRoom k := rfl
@[simp] theorem State.removeDeadline_handleOf (s : State) (o : DeadlineObject) (k : LockIndex) : (s.removeDeadline o).handleOf k = s.handleOf k := rfl

/-! ### moveDeadline -/

@[simp] theorem State.moveDeadline_interfaces (s : State) (o : DeadlineObject) (t : Ticks) : (s.moveDeadline o t).interfaces = s.interfaces := rfl
@[simp] theorem State.moveDeadline_units (s : State) (o : DeadlineObject) (t : Ticks) : (s.moveDeadline o t).units = s.units := rfl
@[simp] theorem State.moveDeadline_locks (s : State) (o : DeadlineObject) (t : Ticks) : (s.moveDeadline o t).locks = s.locks := rfl
@[simp] theorem State.moveDeadline_freeLocks (s : State) (o : DeadlineObject) (t : Ticks) : (s.moveDeadline o t).freeLocks = s.freeLocks := rfl
@[simp] theorem State.moveDeadline_freeRecords (s : State) (o : DeadlineObject) (t : Ticks) : (s.moveDeadline o t).freeRecords = s.freeRecords := rfl
@[simp] theorem State.moveDeadline_poolPorts (s : State) (o : DeadlineObject) (t : Ticks) : (s.moveDeadline o t).poolPorts = s.poolPorts := rfl
@[simp] theorem State.moveDeadline_tick (s : State) (o : DeadlineObject) (t : Ticks) : (s.moveDeadline o t).tick = s.tick := rfl
@[simp] theorem State.moveDeadline_prescale (s : State) (o : DeadlineObject) (t : Ticks) : (s.moveDeadline o t).prescale = s.prescale := rfl
@[simp] theorem State.moveDeadline_tickLength (s : State) (o : DeadlineObject) (t : Ticks) : (s.moveDeadline o t).tickLength = s.tickLength := rfl
@[simp] theorem State.moveDeadline_cycleCount (s : State) (o : DeadlineObject) (t : Ticks) : (s.moveDeadline o t).cycleCount = s.cycleCount := rfl
@[simp] theorem State.moveDeadline_inboxes (s : State) (o : DeadlineObject) (t : Ticks) : (s.moveDeadline o t).inboxes = s.inboxes := rfl
@[simp] theorem State.moveDeadline_barriers (s : State) (o : DeadlineObject) (t : Ticks) : (s.moveDeadline o t).barriers = s.barriers := rfl
@[simp] theorem State.moveDeadline_sessions (s : State) (o : DeadlineObject) (t : Ticks) : (s.moveDeadline o t).sessions = s.sessions := rfl
@[simp] theorem State.moveDeadline_supervisor (s : State) (o : DeadlineObject) (t : Ticks) : (s.moveDeadline o t).supervisor = s.supervisor := rfl
@[simp] theorem State.moveDeadline_engine (s : State) (o : DeadlineObject) (t : Ticks) : (s.moveDeadline o t).engine = s.engine := rfl
@[simp] theorem State.moveDeadline_departureQueue (s : State) (o : DeadlineObject) (t : Ticks) : (s.moveDeadline o t).departureQueue = s.departureQueue := rfl
@[simp] theorem State.moveDeadline_resetLow (s : State) (o : DeadlineObject) (t : Ticks) : (s.moveDeadline o t).resetLow = s.resetLow := rfl
@[simp] theorem State.moveDeadline_prstLow (s : State) (o : DeadlineObject) (t : Ticks) : (s.moveDeadline o t).prstLow = s.prstLow := rfl
@[simp] theorem State.moveDeadline_pending (s : State) (o : DeadlineObject) (t : Ticks) : (s.moveDeadline o t).pending = s.pending := rfl
@[simp] theorem State.moveDeadline_interface (s : State) (o : DeadlineObject) (t : Ticks) (k : Port) : (s.moveDeadline o t).interface k = s.interface k := rfl
@[simp] theorem State.moveDeadline_unit (s : State) (o : DeadlineObject) (t : Ticks) (k : Port) : (s.moveDeadline o t).unit k = s.unit k := rfl
@[simp] theorem State.moveDeadline_lock (s : State) (o : DeadlineObject) (t : Ticks) (k : LockIndex) : (s.moveDeadline o t).lock k = s.lock k := rfl
@[simp] theorem State.moveDeadline_pool (s : State) (o : DeadlineObject) (t : Ticks) (k : Port) : (s.moveDeadline o t).pool k = s.pool k := rfl
@[simp] theorem State.moveDeadline_inbox (s : State) (o : DeadlineObject) (t : Ticks) (k : Port) : (s.moveDeadline o t).inbox k = s.inbox k := rfl
@[simp] theorem State.moveDeadline_barrier (s : State) (o : DeadlineObject) (t : Ticks) (k : BarrierIndex) : (s.moveDeadline o t).barrier k = s.barrier k := rfl
@[simp] theorem State.moveDeadline_session (s : State) (o : DeadlineObject) (t : Ticks) (k : Port) : (s.moveDeadline o t).session k = s.session k := rfl
@[simp] theorem State.moveDeadline_held (s : State) (o : DeadlineObject) (t : Ticks) (k : Port) : (s.moveDeadline o t).held k = s.held k := rfl
@[simp] theorem State.moveDeadline_attached (s : State) (o : DeadlineObject) (t : Ticks) (k : Port) : (s.moveDeadline o t).attached k = s.attached k := rfl
@[simp] theorem State.moveDeadline_freeRoom (s : State) (o : DeadlineObject) (t : Ticks) (k : Port) : (s.moveDeadline o t).freeRoom k = s.freeRoom k := rfl
@[simp] theorem State.moveDeadline_handleOf (s : State) (o : DeadlineObject) (t : Ticks) (k : LockIndex) : (s.moveDeadline o t).handleOf k = s.handleOf k := rfl

/-! ### startLease -/

@[simp] theorem State.startLease_interfaces (s : State) (i : LockIndex) : (s.startLease i).interfaces = s.interfaces := rfl
@[simp] theorem State.startLease_units (s : State) (i : LockIndex) : (s.startLease i).units = s.units := rfl
@[simp] theorem State.startLease_locks (s : State) (i : LockIndex) : (s.startLease i).locks = s.locks := rfl
@[simp] theorem State.startLease_freeLocks (s : State) (i : LockIndex) : (s.startLease i).freeLocks = s.freeLocks := rfl
@[simp] theorem State.startLease_freeRecords (s : State) (i : LockIndex) : (s.startLease i).freeRecords = s.freeRecords := rfl
@[simp] theorem State.startLease_poolPorts (s : State) (i : LockIndex) : (s.startLease i).poolPorts = s.poolPorts := rfl
@[simp] theorem State.startLease_tick (s : State) (i : LockIndex) : (s.startLease i).tick = s.tick := rfl
@[simp] theorem State.startLease_prescale (s : State) (i : LockIndex) : (s.startLease i).prescale = s.prescale := rfl
@[simp] theorem State.startLease_tickLength (s : State) (i : LockIndex) : (s.startLease i).tickLength = s.tickLength := rfl
@[simp] theorem State.startLease_cycleCount (s : State) (i : LockIndex) : (s.startLease i).cycleCount = s.cycleCount := rfl
@[simp] theorem State.startLease_inboxes (s : State) (i : LockIndex) : (s.startLease i).inboxes = s.inboxes := rfl
@[simp] theorem State.startLease_barriers (s : State) (i : LockIndex) : (s.startLease i).barriers = s.barriers := rfl
@[simp] theorem State.startLease_sessions (s : State) (i : LockIndex) : (s.startLease i).sessions = s.sessions := rfl
@[simp] theorem State.startLease_supervisor (s : State) (i : LockIndex) : (s.startLease i).supervisor = s.supervisor := rfl
@[simp] theorem State.startLease_engine (s : State) (i : LockIndex) : (s.startLease i).engine = s.engine := rfl
@[simp] theorem State.startLease_departureQueue (s : State) (i : LockIndex) : (s.startLease i).departureQueue = s.departureQueue := rfl
@[simp] theorem State.startLease_resetLow (s : State) (i : LockIndex) : (s.startLease i).resetLow = s.resetLow := rfl
@[simp] theorem State.startLease_prstLow (s : State) (i : LockIndex) : (s.startLease i).prstLow = s.prstLow := rfl
@[simp] theorem State.startLease_pending (s : State) (i : LockIndex) : (s.startLease i).pending = s.pending := rfl
@[simp] theorem State.startLease_interface (s : State) (i : LockIndex) (k : Port) : (s.startLease i).interface k = s.interface k := rfl
@[simp] theorem State.startLease_unit (s : State) (i : LockIndex) (k : Port) : (s.startLease i).unit k = s.unit k := rfl
@[simp] theorem State.startLease_lock (s : State) (i : LockIndex) (k : LockIndex) : (s.startLease i).lock k = s.lock k := rfl
@[simp] theorem State.startLease_pool (s : State) (i : LockIndex) (k : Port) : (s.startLease i).pool k = s.pool k := rfl
@[simp] theorem State.startLease_inbox (s : State) (i : LockIndex) (k : Port) : (s.startLease i).inbox k = s.inbox k := rfl
@[simp] theorem State.startLease_barrier (s : State) (i : LockIndex) (k : BarrierIndex) : (s.startLease i).barrier k = s.barrier k := rfl
@[simp] theorem State.startLease_session (s : State) (i : LockIndex) (k : Port) : (s.startLease i).session k = s.session k := rfl
@[simp] theorem State.startLease_held (s : State) (i : LockIndex) (k : Port) : (s.startLease i).held k = s.held k := rfl
@[simp] theorem State.startLease_attached (s : State) (i : LockIndex) (k : Port) : (s.startLease i).attached k = s.attached k := rfl
@[simp] theorem State.startLease_freeRoom (s : State) (i : LockIndex) (k : Port) : (s.startLease i).freeRoom k = s.freeRoom k := rfl
@[simp] theorem State.startLease_handleOf (s : State) (i : LockIndex) (k : LockIndex) : (s.startLease i).handleOf k = s.handleOf k := rfl

/-! ### reserve -/

@[simp] theorem State.reserve_interfaces (s : State) (p : Port) (n : Nat) : (s.reserve p n).interfaces = s.interfaces := rfl
@[simp] theorem State.reserve_units (s : State) (p : Port) (n : Nat) : (s.reserve p n).units = s.units := rfl
@[simp] theorem State.reserve_locks (s : State) (p : Port) (n : Nat) : (s.reserve p n).locks = s.locks := rfl
@[simp] theorem State.reserve_freeLocks (s : State) (p : Port) (n : Nat) : (s.reserve p n).freeLocks = s.freeLocks := rfl
@[simp] theorem State.reserve_freeRecords (s : State) (p : Port) (n : Nat) : (s.reserve p n).freeRecords = s.freeRecords := rfl
@[simp] theorem State.reserve_poolPorts (s : State) (p : Port) (n : Nat) : (s.reserve p n).poolPorts = s.poolPorts := rfl
@[simp] theorem State.reserve_deadlines (s : State) (p : Port) (n : Nat) : (s.reserve p n).deadlines = s.deadlines := rfl
@[simp] theorem State.reserve_tick (s : State) (p : Port) (n : Nat) : (s.reserve p n).tick = s.tick := rfl
@[simp] theorem State.reserve_prescale (s : State) (p : Port) (n : Nat) : (s.reserve p n).prescale = s.prescale := rfl
@[simp] theorem State.reserve_tickLength (s : State) (p : Port) (n : Nat) : (s.reserve p n).tickLength = s.tickLength := rfl
@[simp] theorem State.reserve_cycleCount (s : State) (p : Port) (n : Nat) : (s.reserve p n).cycleCount = s.cycleCount := rfl
@[simp] theorem State.reserve_barriers (s : State) (p : Port) (n : Nat) : (s.reserve p n).barriers = s.barriers := rfl
@[simp] theorem State.reserve_sessions (s : State) (p : Port) (n : Nat) : (s.reserve p n).sessions = s.sessions := rfl
@[simp] theorem State.reserve_supervisor (s : State) (p : Port) (n : Nat) : (s.reserve p n).supervisor = s.supervisor := rfl
@[simp] theorem State.reserve_engine (s : State) (p : Port) (n : Nat) : (s.reserve p n).engine = s.engine := rfl
@[simp] theorem State.reserve_departureQueue (s : State) (p : Port) (n : Nat) : (s.reserve p n).departureQueue = s.departureQueue := rfl
@[simp] theorem State.reserve_resetLow (s : State) (p : Port) (n : Nat) : (s.reserve p n).resetLow = s.resetLow := rfl
@[simp] theorem State.reserve_prstLow (s : State) (p : Port) (n : Nat) : (s.reserve p n).prstLow = s.prstLow := rfl
@[simp] theorem State.reserve_pending (s : State) (p : Port) (n : Nat) : (s.reserve p n).pending = s.pending := rfl
@[simp] theorem State.reserve_interface (s : State) (p : Port) (n : Nat) (k : Port) : (s.reserve p n).interface k = s.interface k := rfl
@[simp] theorem State.reserve_unit (s : State) (p : Port) (n : Nat) (k : Port) : (s.reserve p n).unit k = s.unit k := rfl
@[simp] theorem State.reserve_lock (s : State) (p : Port) (n : Nat) (k : LockIndex) : (s.reserve p n).lock k = s.lock k := rfl
@[simp] theorem State.reserve_pool (s : State) (p : Port) (n : Nat) (k : Port) : (s.reserve p n).pool k = s.pool k := rfl
@[simp] theorem State.reserve_barrier (s : State) (p : Port) (n : Nat) (k : BarrierIndex) : (s.reserve p n).barrier k = s.barrier k := rfl
@[simp] theorem State.reserve_session (s : State) (p : Port) (n : Nat) (k : Port) : (s.reserve p n).session k = s.session k := rfl
@[simp] theorem State.reserve_held (s : State) (p : Port) (n : Nat) (k : Port) : (s.reserve p n).held k = s.held k := rfl
@[simp] theorem State.reserve_attached (s : State) (p : Port) (n : Nat) (k : Port) : (s.reserve p n).attached k = s.attached k := rfl
@[simp] theorem State.reserve_handleOf (s : State) (p : Port) (n : Nat) (k : LockIndex) : (s.reserve p n).handleOf k = s.handleOf k := rfl

/-! ### dropReservations -/

@[simp] theorem State.dropReservations_interfaces (s : State) (p : Port) (n : Nat) : (s.dropReservations p n).interfaces = s.interfaces := rfl
@[simp] theorem State.dropReservations_units (s : State) (p : Port) (n : Nat) : (s.dropReservations p n).units = s.units := rfl
@[simp] theorem State.dropReservations_locks (s : State) (p : Port) (n : Nat) : (s.dropReservations p n).locks = s.locks := rfl
@[simp] theorem State.dropReservations_freeLocks (s : State) (p : Port) (n : Nat) : (s.dropReservations p n).freeLocks = s.freeLocks := rfl
@[simp] theorem State.dropReservations_freeRecords (s : State) (p : Port) (n : Nat) : (s.dropReservations p n).freeRecords = s.freeRecords := rfl
@[simp] theorem State.dropReservations_poolPorts (s : State) (p : Port) (n : Nat) : (s.dropReservations p n).poolPorts = s.poolPorts := rfl
@[simp] theorem State.dropReservations_deadlines (s : State) (p : Port) (n : Nat) : (s.dropReservations p n).deadlines = s.deadlines := rfl
@[simp] theorem State.dropReservations_tick (s : State) (p : Port) (n : Nat) : (s.dropReservations p n).tick = s.tick := rfl
@[simp] theorem State.dropReservations_prescale (s : State) (p : Port) (n : Nat) : (s.dropReservations p n).prescale = s.prescale := rfl
@[simp] theorem State.dropReservations_tickLength (s : State) (p : Port) (n : Nat) : (s.dropReservations p n).tickLength = s.tickLength := rfl
@[simp] theorem State.dropReservations_cycleCount (s : State) (p : Port) (n : Nat) : (s.dropReservations p n).cycleCount = s.cycleCount := rfl
@[simp] theorem State.dropReservations_barriers (s : State) (p : Port) (n : Nat) : (s.dropReservations p n).barriers = s.barriers := rfl
@[simp] theorem State.dropReservations_sessions (s : State) (p : Port) (n : Nat) : (s.dropReservations p n).sessions = s.sessions := rfl
@[simp] theorem State.dropReservations_supervisor (s : State) (p : Port) (n : Nat) : (s.dropReservations p n).supervisor = s.supervisor := rfl
@[simp] theorem State.dropReservations_engine (s : State) (p : Port) (n : Nat) : (s.dropReservations p n).engine = s.engine := rfl
@[simp] theorem State.dropReservations_departureQueue (s : State) (p : Port) (n : Nat) : (s.dropReservations p n).departureQueue = s.departureQueue := rfl
@[simp] theorem State.dropReservations_resetLow (s : State) (p : Port) (n : Nat) : (s.dropReservations p n).resetLow = s.resetLow := rfl
@[simp] theorem State.dropReservations_prstLow (s : State) (p : Port) (n : Nat) : (s.dropReservations p n).prstLow = s.prstLow := rfl
@[simp] theorem State.dropReservations_pending (s : State) (p : Port) (n : Nat) : (s.dropReservations p n).pending = s.pending := rfl
@[simp] theorem State.dropReservations_interface (s : State) (p : Port) (n : Nat) (k : Port) : (s.dropReservations p n).interface k = s.interface k := rfl
@[simp] theorem State.dropReservations_unit (s : State) (p : Port) (n : Nat) (k : Port) : (s.dropReservations p n).unit k = s.unit k := rfl
@[simp] theorem State.dropReservations_lock (s : State) (p : Port) (n : Nat) (k : LockIndex) : (s.dropReservations p n).lock k = s.lock k := rfl
@[simp] theorem State.dropReservations_pool (s : State) (p : Port) (n : Nat) (k : Port) : (s.dropReservations p n).pool k = s.pool k := rfl
@[simp] theorem State.dropReservations_barrier (s : State) (p : Port) (n : Nat) (k : BarrierIndex) : (s.dropReservations p n).barrier k = s.barrier k := rfl
@[simp] theorem State.dropReservations_session (s : State) (p : Port) (n : Nat) (k : Port) : (s.dropReservations p n).session k = s.session k := rfl
@[simp] theorem State.dropReservations_held (s : State) (p : Port) (n : Nat) (k : Port) : (s.dropReservations p n).held k = s.held k := rfl
@[simp] theorem State.dropReservations_attached (s : State) (p : Port) (n : Nat) (k : Port) : (s.dropReservations p n).attached k = s.attached k := rfl
@[simp] theorem State.dropReservations_handleOf (s : State) (p : Port) (n : Nat) (k : LockIndex) : (s.dropReservations p n).handleOf k = s.handleOf k := rfl

/-! ### deliver -/

@[simp] theorem State.deliver_interfaces (s : State) (p : Port) (e : InboxEntry) : (s.deliver p e).interfaces = s.interfaces := rfl
@[simp] theorem State.deliver_units (s : State) (p : Port) (e : InboxEntry) : (s.deliver p e).units = s.units := rfl
@[simp] theorem State.deliver_locks (s : State) (p : Port) (e : InboxEntry) : (s.deliver p e).locks = s.locks := rfl
@[simp] theorem State.deliver_freeLocks (s : State) (p : Port) (e : InboxEntry) : (s.deliver p e).freeLocks = s.freeLocks := rfl
@[simp] theorem State.deliver_freeRecords (s : State) (p : Port) (e : InboxEntry) : (s.deliver p e).freeRecords = s.freeRecords := rfl
@[simp] theorem State.deliver_poolPorts (s : State) (p : Port) (e : InboxEntry) : (s.deliver p e).poolPorts = s.poolPorts := rfl
@[simp] theorem State.deliver_deadlines (s : State) (p : Port) (e : InboxEntry) : (s.deliver p e).deadlines = s.deadlines := rfl
@[simp] theorem State.deliver_tick (s : State) (p : Port) (e : InboxEntry) : (s.deliver p e).tick = s.tick := rfl
@[simp] theorem State.deliver_prescale (s : State) (p : Port) (e : InboxEntry) : (s.deliver p e).prescale = s.prescale := rfl
@[simp] theorem State.deliver_tickLength (s : State) (p : Port) (e : InboxEntry) : (s.deliver p e).tickLength = s.tickLength := rfl
@[simp] theorem State.deliver_cycleCount (s : State) (p : Port) (e : InboxEntry) : (s.deliver p e).cycleCount = s.cycleCount := rfl
@[simp] theorem State.deliver_barriers (s : State) (p : Port) (e : InboxEntry) : (s.deliver p e).barriers = s.barriers := rfl
@[simp] theorem State.deliver_sessions (s : State) (p : Port) (e : InboxEntry) : (s.deliver p e).sessions = s.sessions := rfl
@[simp] theorem State.deliver_supervisor (s : State) (p : Port) (e : InboxEntry) : (s.deliver p e).supervisor = s.supervisor := rfl
@[simp] theorem State.deliver_engine (s : State) (p : Port) (e : InboxEntry) : (s.deliver p e).engine = s.engine := rfl
@[simp] theorem State.deliver_departureQueue (s : State) (p : Port) (e : InboxEntry) : (s.deliver p e).departureQueue = s.departureQueue := rfl
@[simp] theorem State.deliver_resetLow (s : State) (p : Port) (e : InboxEntry) : (s.deliver p e).resetLow = s.resetLow := rfl
@[simp] theorem State.deliver_prstLow (s : State) (p : Port) (e : InboxEntry) : (s.deliver p e).prstLow = s.prstLow := rfl
@[simp] theorem State.deliver_pending (s : State) (p : Port) (e : InboxEntry) : (s.deliver p e).pending = s.pending := rfl
@[simp] theorem State.deliver_interface (s : State) (p : Port) (e : InboxEntry) (k : Port) : (s.deliver p e).interface k = s.interface k := rfl
@[simp] theorem State.deliver_unit (s : State) (p : Port) (e : InboxEntry) (k : Port) : (s.deliver p e).unit k = s.unit k := rfl
@[simp] theorem State.deliver_lock (s : State) (p : Port) (e : InboxEntry) (k : LockIndex) : (s.deliver p e).lock k = s.lock k := rfl
@[simp] theorem State.deliver_pool (s : State) (p : Port) (e : InboxEntry) (k : Port) : (s.deliver p e).pool k = s.pool k := rfl
@[simp] theorem State.deliver_barrier (s : State) (p : Port) (e : InboxEntry) (k : BarrierIndex) : (s.deliver p e).barrier k = s.barrier k := rfl
@[simp] theorem State.deliver_session (s : State) (p : Port) (e : InboxEntry) (k : Port) : (s.deliver p e).session k = s.session k := rfl
@[simp] theorem State.deliver_held (s : State) (p : Port) (e : InboxEntry) (k : Port) : (s.deliver p e).held k = s.held k := rfl
@[simp] theorem State.deliver_attached (s : State) (p : Port) (e : InboxEntry) (k : Port) : (s.deliver p e).attached k = s.attached k := rfl
@[simp] theorem State.deliver_handleOf (s : State) (p : Port) (e : InboxEntry) (k : LockIndex) : (s.deliver p e).handleOf k = s.handleOf k := rfl

/-! ### flush -/

@[simp] theorem State.flush_interfaces (s : State) (p : Port) : (s.flush p).interfaces = s.interfaces := rfl
@[simp] theorem State.flush_units (s : State) (p : Port) : (s.flush p).units = s.units := rfl
@[simp] theorem State.flush_locks (s : State) (p : Port) : (s.flush p).locks = s.locks := rfl
@[simp] theorem State.flush_freeLocks (s : State) (p : Port) : (s.flush p).freeLocks = s.freeLocks := rfl
@[simp] theorem State.flush_freeRecords (s : State) (p : Port) : (s.flush p).freeRecords = s.freeRecords := rfl
@[simp] theorem State.flush_poolPorts (s : State) (p : Port) : (s.flush p).poolPorts = s.poolPorts := rfl
@[simp] theorem State.flush_deadlines (s : State) (p : Port) : (s.flush p).deadlines = s.deadlines := rfl
@[simp] theorem State.flush_tick (s : State) (p : Port) : (s.flush p).tick = s.tick := rfl
@[simp] theorem State.flush_prescale (s : State) (p : Port) : (s.flush p).prescale = s.prescale := rfl
@[simp] theorem State.flush_tickLength (s : State) (p : Port) : (s.flush p).tickLength = s.tickLength := rfl
@[simp] theorem State.flush_cycleCount (s : State) (p : Port) : (s.flush p).cycleCount = s.cycleCount := rfl
@[simp] theorem State.flush_barriers (s : State) (p : Port) : (s.flush p).barriers = s.barriers := rfl
@[simp] theorem State.flush_sessions (s : State) (p : Port) : (s.flush p).sessions = s.sessions := rfl
@[simp] theorem State.flush_supervisor (s : State) (p : Port) : (s.flush p).supervisor = s.supervisor := rfl
@[simp] theorem State.flush_engine (s : State) (p : Port) : (s.flush p).engine = s.engine := rfl
@[simp] theorem State.flush_departureQueue (s : State) (p : Port) : (s.flush p).departureQueue = s.departureQueue := rfl
@[simp] theorem State.flush_resetLow (s : State) (p : Port) : (s.flush p).resetLow = s.resetLow := rfl
@[simp] theorem State.flush_prstLow (s : State) (p : Port) : (s.flush p).prstLow = s.prstLow := rfl
@[simp] theorem State.flush_pending (s : State) (p : Port) : (s.flush p).pending = s.pending := rfl
@[simp] theorem State.flush_interface (s : State) (p : Port) (k : Port) : (s.flush p).interface k = s.interface k := rfl
@[simp] theorem State.flush_unit (s : State) (p : Port) (k : Port) : (s.flush p).unit k = s.unit k := rfl
@[simp] theorem State.flush_lock (s : State) (p : Port) (k : LockIndex) : (s.flush p).lock k = s.lock k := rfl
@[simp] theorem State.flush_pool (s : State) (p : Port) (k : Port) : (s.flush p).pool k = s.pool k := rfl
@[simp] theorem State.flush_barrier (s : State) (p : Port) (k : BarrierIndex) : (s.flush p).barrier k = s.barrier k := rfl
@[simp] theorem State.flush_session (s : State) (p : Port) (k : Port) : (s.flush p).session k = s.session k := rfl
@[simp] theorem State.flush_held (s : State) (p : Port) (k : Port) : (s.flush p).held k = s.held k := rfl
@[simp] theorem State.flush_attached (s : State) (p : Port) (k : Port) : (s.flush p).attached k = s.attached k := rfl
@[simp] theorem State.flush_handleOf (s : State) (p : Port) (k : LockIndex) : (s.flush p).handleOf k = s.handleOf k := rfl

/-! ### answer -/

@[simp] theorem State.answer_interfaces (s : State) (p : Port) (a : Answer) : (s.answer p a).interfaces = s.interfaces := rfl
@[simp] theorem State.answer_locks (s : State) (p : Port) (a : Answer) : (s.answer p a).locks = s.locks := rfl
@[simp] theorem State.answer_freeLocks (s : State) (p : Port) (a : Answer) : (s.answer p a).freeLocks = s.freeLocks := rfl
@[simp] theorem State.answer_freeRecords (s : State) (p : Port) (a : Answer) : (s.answer p a).freeRecords = s.freeRecords := rfl
@[simp] theorem State.answer_poolPorts (s : State) (p : Port) (a : Answer) : (s.answer p a).poolPorts = s.poolPorts := rfl
@[simp] theorem State.answer_deadlines (s : State) (p : Port) (a : Answer) : (s.answer p a).deadlines = s.deadlines := rfl
@[simp] theorem State.answer_tick (s : State) (p : Port) (a : Answer) : (s.answer p a).tick = s.tick := rfl
@[simp] theorem State.answer_prescale (s : State) (p : Port) (a : Answer) : (s.answer p a).prescale = s.prescale := rfl
@[simp] theorem State.answer_tickLength (s : State) (p : Port) (a : Answer) : (s.answer p a).tickLength = s.tickLength := rfl
@[simp] theorem State.answer_cycleCount (s : State) (p : Port) (a : Answer) : (s.answer p a).cycleCount = s.cycleCount := rfl
@[simp] theorem State.answer_inboxes (s : State) (p : Port) (a : Answer) : (s.answer p a).inboxes = s.inboxes := rfl
@[simp] theorem State.answer_barriers (s : State) (p : Port) (a : Answer) : (s.answer p a).barriers = s.barriers := rfl
@[simp] theorem State.answer_sessions (s : State) (p : Port) (a : Answer) : (s.answer p a).sessions = s.sessions := rfl
@[simp] theorem State.answer_supervisor (s : State) (p : Port) (a : Answer) : (s.answer p a).supervisor = s.supervisor := rfl
@[simp] theorem State.answer_engine (s : State) (p : Port) (a : Answer) : (s.answer p a).engine = s.engine := rfl
@[simp] theorem State.answer_departureQueue (s : State) (p : Port) (a : Answer) : (s.answer p a).departureQueue = s.departureQueue := rfl
@[simp] theorem State.answer_resetLow (s : State) (p : Port) (a : Answer) : (s.answer p a).resetLow = s.resetLow := rfl
@[simp] theorem State.answer_prstLow (s : State) (p : Port) (a : Answer) : (s.answer p a).prstLow = s.prstLow := rfl
@[simp] theorem State.answer_pending (s : State) (p : Port) (a : Answer) : (s.answer p a).pending = s.pending := rfl
@[simp] theorem State.answer_interface (s : State) (p : Port) (a : Answer) (k : Port) : (s.answer p a).interface k = s.interface k := rfl
@[simp] theorem State.answer_lock (s : State) (p : Port) (a : Answer) (k : LockIndex) : (s.answer p a).lock k = s.lock k := rfl
@[simp] theorem State.answer_pool (s : State) (p : Port) (a : Answer) (k : Port) : (s.answer p a).pool k = s.pool k := rfl
@[simp] theorem State.answer_inbox (s : State) (p : Port) (a : Answer) (k : Port) : (s.answer p a).inbox k = s.inbox k := rfl
@[simp] theorem State.answer_barrier (s : State) (p : Port) (a : Answer) (k : BarrierIndex) : (s.answer p a).barrier k = s.barrier k := rfl
@[simp] theorem State.answer_session (s : State) (p : Port) (a : Answer) (k : Port) : (s.answer p a).session k = s.session k := rfl
@[simp] theorem State.answer_held (s : State) (p : Port) (a : Answer) (k : Port) : (s.answer p a).held k = s.held k := rfl
@[simp] theorem State.answer_attached (s : State) (p : Port) (a : Answer) (k : Port) : (s.answer p a).attached k = s.attached k := rfl
@[simp] theorem State.answer_freeRoom (s : State) (p : Port) (a : Answer) (k : Port) : (s.answer p a).freeRoom k = s.freeRoom k := rfl
@[simp] theorem State.answer_handleOf (s : State) (p : Port) (a : Answer) (k : LockIndex) : (s.answer p a).handleOf k = s.handleOf k := rfl

/-! ### freeRecord -/

@[simp] theorem State.freeRecord_interfaces (s : State) (i : LockIndex) (w : WaiterRecord) : (s.freeRecord i w).interfaces = s.interfaces := rfl
@[simp] theorem State.freeRecord_units (s : State) (i : LockIndex) (w : WaiterRecord) : (s.freeRecord i w).units = s.units := rfl
@[simp] theorem State.freeRecord_freeLocks (s : State) (i : LockIndex) (w : WaiterRecord) : (s.freeRecord i w).freeLocks = s.freeLocks := rfl
@[simp] theorem State.freeRecord_tick (s : State) (i : LockIndex) (w : WaiterRecord) : (s.freeRecord i w).tick = s.tick := rfl
@[simp] theorem State.freeRecord_prescale (s : State) (i : LockIndex) (w : WaiterRecord) : (s.freeRecord i w).prescale = s.prescale := rfl
@[simp] theorem State.freeRecord_tickLength (s : State) (i : LockIndex) (w : WaiterRecord) : (s.freeRecord i w).tickLength = s.tickLength := rfl
@[simp] theorem State.freeRecord_cycleCount (s : State) (i : LockIndex) (w : WaiterRecord) : (s.freeRecord i w).cycleCount = s.cycleCount := rfl
@[simp] theorem State.freeRecord_inboxes (s : State) (i : LockIndex) (w : WaiterRecord) : (s.freeRecord i w).inboxes = s.inboxes := rfl
@[simp] theorem State.freeRecord_barriers (s : State) (i : LockIndex) (w : WaiterRecord) : (s.freeRecord i w).barriers = s.barriers := rfl
@[simp] theorem State.freeRecord_sessions (s : State) (i : LockIndex) (w : WaiterRecord) : (s.freeRecord i w).sessions = s.sessions := rfl
@[simp] theorem State.freeRecord_supervisor (s : State) (i : LockIndex) (w : WaiterRecord) : (s.freeRecord i w).supervisor = s.supervisor := rfl
@[simp] theorem State.freeRecord_engine (s : State) (i : LockIndex) (w : WaiterRecord) : (s.freeRecord i w).engine = s.engine := rfl
@[simp] theorem State.freeRecord_departureQueue (s : State) (i : LockIndex) (w : WaiterRecord) : (s.freeRecord i w).departureQueue = s.departureQueue := rfl
@[simp] theorem State.freeRecord_resetLow (s : State) (i : LockIndex) (w : WaiterRecord) : (s.freeRecord i w).resetLow = s.resetLow := rfl
@[simp] theorem State.freeRecord_prstLow (s : State) (i : LockIndex) (w : WaiterRecord) : (s.freeRecord i w).prstLow = s.prstLow := rfl
@[simp] theorem State.freeRecord_pending (s : State) (i : LockIndex) (w : WaiterRecord) : (s.freeRecord i w).pending = s.pending := rfl
@[simp] theorem State.freeRecord_interface (s : State) (i : LockIndex) (w : WaiterRecord) (k : Port) : (s.freeRecord i w).interface k = s.interface k := rfl
@[simp] theorem State.freeRecord_unit (s : State) (i : LockIndex) (w : WaiterRecord) (k : Port) : (s.freeRecord i w).unit k = s.unit k := rfl
@[simp] theorem State.freeRecord_inbox (s : State) (i : LockIndex) (w : WaiterRecord) (k : Port) : (s.freeRecord i w).inbox k = s.inbox k := rfl
@[simp] theorem State.freeRecord_barrier (s : State) (i : LockIndex) (w : WaiterRecord) (k : BarrierIndex) : (s.freeRecord i w).barrier k = s.barrier k := rfl
@[simp] theorem State.freeRecord_session (s : State) (i : LockIndex) (w : WaiterRecord) (k : Port) : (s.freeRecord i w).session k = s.session k := rfl
@[simp] theorem State.freeRecord_held (s : State) (i : LockIndex) (w : WaiterRecord) (k : Port) : (s.freeRecord i w).held k = s.held k := rfl
@[simp] theorem State.freeRecord_attached (s : State) (i : LockIndex) (w : WaiterRecord) (k : Port) : (s.freeRecord i w).attached k = s.attached k := rfl
@[simp] theorem State.freeRecord_freeRoom (s : State) (i : LockIndex) (w : WaiterRecord) (k : Port) : (s.freeRecord i w).freeRoom k = s.freeRoom k := rfl

/-! ### discardRecord -/

@[simp] theorem State.discardRecord_interfaces (s : State) (i : LockIndex) (w : WaiterRecord) : (s.discardRecord i w).interfaces = s.interfaces := rfl
@[simp] theorem State.discardRecord_units (s : State) (i : LockIndex) (w : WaiterRecord) : (s.discardRecord i w).units = s.units := rfl
@[simp] theorem State.discardRecord_freeLocks (s : State) (i : LockIndex) (w : WaiterRecord) : (s.discardRecord i w).freeLocks = s.freeLocks := rfl
@[simp] theorem State.discardRecord_tick (s : State) (i : LockIndex) (w : WaiterRecord) : (s.discardRecord i w).tick = s.tick := rfl
@[simp] theorem State.discardRecord_prescale (s : State) (i : LockIndex) (w : WaiterRecord) : (s.discardRecord i w).prescale = s.prescale := rfl
@[simp] theorem State.discardRecord_tickLength (s : State) (i : LockIndex) (w : WaiterRecord) : (s.discardRecord i w).tickLength = s.tickLength := rfl
@[simp] theorem State.discardRecord_cycleCount (s : State) (i : LockIndex) (w : WaiterRecord) : (s.discardRecord i w).cycleCount = s.cycleCount := rfl
@[simp] theorem State.discardRecord_barriers (s : State) (i : LockIndex) (w : WaiterRecord) : (s.discardRecord i w).barriers = s.barriers := rfl
@[simp] theorem State.discardRecord_sessions (s : State) (i : LockIndex) (w : WaiterRecord) : (s.discardRecord i w).sessions = s.sessions := rfl
@[simp] theorem State.discardRecord_supervisor (s : State) (i : LockIndex) (w : WaiterRecord) : (s.discardRecord i w).supervisor = s.supervisor := rfl
@[simp] theorem State.discardRecord_engine (s : State) (i : LockIndex) (w : WaiterRecord) : (s.discardRecord i w).engine = s.engine := rfl
@[simp] theorem State.discardRecord_departureQueue (s : State) (i : LockIndex) (w : WaiterRecord) : (s.discardRecord i w).departureQueue = s.departureQueue := rfl
@[simp] theorem State.discardRecord_resetLow (s : State) (i : LockIndex) (w : WaiterRecord) : (s.discardRecord i w).resetLow = s.resetLow := rfl
@[simp] theorem State.discardRecord_prstLow (s : State) (i : LockIndex) (w : WaiterRecord) : (s.discardRecord i w).prstLow = s.prstLow := rfl
@[simp] theorem State.discardRecord_pending (s : State) (i : LockIndex) (w : WaiterRecord) : (s.discardRecord i w).pending = s.pending := rfl
@[simp] theorem State.discardRecord_interface (s : State) (i : LockIndex) (w : WaiterRecord) (k : Port) : (s.discardRecord i w).interface k = s.interface k := rfl
@[simp] theorem State.discardRecord_unit (s : State) (i : LockIndex) (w : WaiterRecord) (k : Port) : (s.discardRecord i w).unit k = s.unit k := rfl
@[simp] theorem State.discardRecord_barrier (s : State) (i : LockIndex) (w : WaiterRecord) (k : BarrierIndex) : (s.discardRecord i w).barrier k = s.barrier k := rfl
@[simp] theorem State.discardRecord_session (s : State) (i : LockIndex) (w : WaiterRecord) (k : Port) : (s.discardRecord i w).session k = s.session k := rfl
@[simp] theorem State.discardRecord_held (s : State) (i : LockIndex) (w : WaiterRecord) (k : Port) : (s.discardRecord i w).held k = s.held k := rfl
@[simp] theorem State.discardRecord_attached (s : State) (i : LockIndex) (w : WaiterRecord) (k : Port) : (s.discardRecord i w).attached k = s.attached k := rfl

/-! ### enqueue -/

@[simp] theorem State.enqueue_interfaces (s : State) (w : WaiterRecord) : (s.enqueue w).interfaces = s.interfaces := rfl
@[simp] theorem State.enqueue_units (s : State) (w : WaiterRecord) : (s.enqueue w).units = s.units := rfl
@[simp] theorem State.enqueue_freeLocks (s : State) (w : WaiterRecord) : (s.enqueue w).freeLocks = s.freeLocks := rfl
@[simp] theorem State.enqueue_deadlines (s : State) (w : WaiterRecord) : (s.enqueue w).deadlines = s.deadlines := rfl
@[simp] theorem State.enqueue_tick (s : State) (w : WaiterRecord) : (s.enqueue w).tick = s.tick := rfl
@[simp] theorem State.enqueue_prescale (s : State) (w : WaiterRecord) : (s.enqueue w).prescale = s.prescale := rfl
@[simp] theorem State.enqueue_tickLength (s : State) (w : WaiterRecord) : (s.enqueue w).tickLength = s.tickLength := rfl
@[simp] theorem State.enqueue_cycleCount (s : State) (w : WaiterRecord) : (s.enqueue w).cycleCount = s.cycleCount := rfl
@[simp] theorem State.enqueue_inboxes (s : State) (w : WaiterRecord) : (s.enqueue w).inboxes = s.inboxes := rfl
@[simp] theorem State.enqueue_barriers (s : State) (w : WaiterRecord) : (s.enqueue w).barriers = s.barriers := rfl
@[simp] theorem State.enqueue_sessions (s : State) (w : WaiterRecord) : (s.enqueue w).sessions = s.sessions := rfl
@[simp] theorem State.enqueue_supervisor (s : State) (w : WaiterRecord) : (s.enqueue w).supervisor = s.supervisor := rfl
@[simp] theorem State.enqueue_engine (s : State) (w : WaiterRecord) : (s.enqueue w).engine = s.engine := rfl
@[simp] theorem State.enqueue_departureQueue (s : State) (w : WaiterRecord) : (s.enqueue w).departureQueue = s.departureQueue := rfl
@[simp] theorem State.enqueue_resetLow (s : State) (w : WaiterRecord) : (s.enqueue w).resetLow = s.resetLow := rfl
@[simp] theorem State.enqueue_prstLow (s : State) (w : WaiterRecord) : (s.enqueue w).prstLow = s.prstLow := rfl
@[simp] theorem State.enqueue_pending (s : State) (w : WaiterRecord) : (s.enqueue w).pending = s.pending := rfl
@[simp] theorem State.enqueue_interface (s : State) (w : WaiterRecord) (k : Port) : (s.enqueue w).interface k = s.interface k := rfl
@[simp] theorem State.enqueue_unit (s : State) (w : WaiterRecord) (k : Port) : (s.enqueue w).unit k = s.unit k := rfl
@[simp] theorem State.enqueue_inbox (s : State) (w : WaiterRecord) (k : Port) : (s.enqueue w).inbox k = s.inbox k := rfl
@[simp] theorem State.enqueue_barrier (s : State) (w : WaiterRecord) (k : BarrierIndex) : (s.enqueue w).barrier k = s.barrier k := rfl
@[simp] theorem State.enqueue_session (s : State) (w : WaiterRecord) (k : Port) : (s.enqueue w).session k = s.session k := rfl
@[simp] theorem State.enqueue_held (s : State) (w : WaiterRecord) (k : Port) : (s.enqueue w).held k = s.held k := rfl
@[simp] theorem State.enqueue_attached (s : State) (w : WaiterRecord) (k : Port) : (s.enqueue w).attached k = s.attached k := rfl
@[simp] theorem State.enqueue_freeRoom (s : State) (w : WaiterRecord) (k : Port) : (s.enqueue w).freeRoom k = s.freeRoom k := rfl

/-! ### deliverReserved -/

@[simp] theorem State.deliverReserved_interfaces (s : State) (p : Port) (e : InboxEntry) : (s.deliverReserved p e).interfaces = s.interfaces := by
  unfold State.deliverReserved; split <;> rfl
@[simp] theorem State.deliverReserved_units (s : State) (p : Port) (e : InboxEntry) : (s.deliverReserved p e).units = s.units := by
  unfold State.deliverReserved; split <;> rfl
@[simp] theorem State.deliverReserved_locks (s : State) (p : Port) (e : InboxEntry) : (s.deliverReserved p e).locks = s.locks := by
  unfold State.deliverReserved; split <;> rfl
@[simp] theorem State.deliverReserved_freeLocks (s : State) (p : Port) (e : InboxEntry) : (s.deliverReserved p e).freeLocks = s.freeLocks := by
  unfold State.deliverReserved; split <;> rfl
@[simp] theorem State.deliverReserved_freeRecords (s : State) (p : Port) (e : InboxEntry) : (s.deliverReserved p e).freeRecords = s.freeRecords := by
  unfold State.deliverReserved; split <;> rfl
@[simp] theorem State.deliverReserved_poolPorts (s : State) (p : Port) (e : InboxEntry) : (s.deliverReserved p e).poolPorts = s.poolPorts := by
  unfold State.deliverReserved; split <;> rfl
@[simp] theorem State.deliverReserved_deadlines (s : State) (p : Port) (e : InboxEntry) : (s.deliverReserved p e).deadlines = s.deadlines := by
  unfold State.deliverReserved; split <;> rfl
@[simp] theorem State.deliverReserved_tick (s : State) (p : Port) (e : InboxEntry) : (s.deliverReserved p e).tick = s.tick := by
  unfold State.deliverReserved; split <;> rfl
@[simp] theorem State.deliverReserved_prescale (s : State) (p : Port) (e : InboxEntry) : (s.deliverReserved p e).prescale = s.prescale := by
  unfold State.deliverReserved; split <;> rfl
@[simp] theorem State.deliverReserved_tickLength (s : State) (p : Port) (e : InboxEntry) : (s.deliverReserved p e).tickLength = s.tickLength := by
  unfold State.deliverReserved; split <;> rfl
@[simp] theorem State.deliverReserved_cycleCount (s : State) (p : Port) (e : InboxEntry) : (s.deliverReserved p e).cycleCount = s.cycleCount := by
  unfold State.deliverReserved; split <;> rfl
@[simp] theorem State.deliverReserved_barriers (s : State) (p : Port) (e : InboxEntry) : (s.deliverReserved p e).barriers = s.barriers := by
  unfold State.deliverReserved; split <;> rfl
@[simp] theorem State.deliverReserved_sessions (s : State) (p : Port) (e : InboxEntry) : (s.deliverReserved p e).sessions = s.sessions := by
  unfold State.deliverReserved; split <;> rfl
@[simp] theorem State.deliverReserved_supervisor (s : State) (p : Port) (e : InboxEntry) : (s.deliverReserved p e).supervisor = s.supervisor := by
  unfold State.deliverReserved; split <;> rfl
@[simp] theorem State.deliverReserved_engine (s : State) (p : Port) (e : InboxEntry) : (s.deliverReserved p e).engine = s.engine := by
  unfold State.deliverReserved; split <;> rfl
@[simp] theorem State.deliverReserved_departureQueue (s : State) (p : Port) (e : InboxEntry) : (s.deliverReserved p e).departureQueue = s.departureQueue := by
  unfold State.deliverReserved; split <;> rfl
@[simp] theorem State.deliverReserved_resetLow (s : State) (p : Port) (e : InboxEntry) : (s.deliverReserved p e).resetLow = s.resetLow := by
  unfold State.deliverReserved; split <;> rfl
@[simp] theorem State.deliverReserved_prstLow (s : State) (p : Port) (e : InboxEntry) : (s.deliverReserved p e).prstLow = s.prstLow := by
  unfold State.deliverReserved; split <;> rfl
@[simp] theorem State.deliverReserved_pending (s : State) (p : Port) (e : InboxEntry) : (s.deliverReserved p e).pending = s.pending := by
  unfold State.deliverReserved; split <;> rfl
@[simp] theorem State.deliverReserved_interface (s : State) (p : Port) (e : InboxEntry) (k : Port) : (s.deliverReserved p e).interface k = s.interface k := by
  simp [State.interface]
@[simp] theorem State.deliverReserved_unit (s : State) (p : Port) (e : InboxEntry) (k : Port) : (s.deliverReserved p e).unit k = s.unit k := by
  simp [State.unit]
@[simp] theorem State.deliverReserved_lock (s : State) (p : Port) (e : InboxEntry) (k : LockIndex) : (s.deliverReserved p e).lock k = s.lock k := by
  simp [State.lock]
@[simp] theorem State.deliverReserved_pool (s : State) (p : Port) (e : InboxEntry) (k : Port) : (s.deliverReserved p e).pool k = s.pool k := by
  simp [State.pool]
@[simp] theorem State.deliverReserved_barrier (s : State) (p : Port) (e : InboxEntry) (k : BarrierIndex) : (s.deliverReserved p e).barrier k = s.barrier k := by
  simp [State.barrier]
@[simp] theorem State.deliverReserved_session (s : State) (p : Port) (e : InboxEntry) (k : Port) : (s.deliverReserved p e).session k = s.session k := by
  simp [State.session]
@[simp] theorem State.deliverReserved_held (s : State) (p : Port) (e : InboxEntry) (k : Port) : (s.deliverReserved p e).held k = s.held k := by
  simp [State.held]
@[simp] theorem State.deliverReserved_attached (s : State) (p : Port) (e : InboxEntry) (k : Port) : (s.deliverReserved p e).attached k = s.attached k := by
  simp [State.attached, State.session]
@[simp] theorem State.deliverReserved_handleOf (s : State) (p : Port) (e : InboxEntry) (k : LockIndex) : (s.deliverReserved p e).handleOf k = s.handleOf k := by
  simp [State.handleOf, State.lock]

/-! ### endLease -/

@[simp] theorem State.endLease_interfaces (s : State) (i : LockIndex) (p : Port) : (s.endLease i p).interfaces = s.interfaces := by
  unfold State.endLease; split <;> rfl
@[simp] theorem State.endLease_units (s : State) (i : LockIndex) (p : Port) : (s.endLease i p).units = s.units := by
  unfold State.endLease; split <;> rfl
@[simp] theorem State.endLease_locks (s : State) (i : LockIndex) (p : Port) : (s.endLease i p).locks = s.locks := by
  unfold State.endLease; split <;> rfl
@[simp] theorem State.endLease_freeLocks (s : State) (i : LockIndex) (p : Port) : (s.endLease i p).freeLocks = s.freeLocks := by
  unfold State.endLease; split <;> rfl
@[simp] theorem State.endLease_freeRecords (s : State) (i : LockIndex) (p : Port) : (s.endLease i p).freeRecords = s.freeRecords := by
  unfold State.endLease; split <;> rfl
@[simp] theorem State.endLease_poolPorts (s : State) (i : LockIndex) (p : Port) : (s.endLease i p).poolPorts = s.poolPorts := by
  unfold State.endLease; split <;> rfl
@[simp] theorem State.endLease_tick (s : State) (i : LockIndex) (p : Port) : (s.endLease i p).tick = s.tick := by
  unfold State.endLease; split <;> rfl
@[simp] theorem State.endLease_prescale (s : State) (i : LockIndex) (p : Port) : (s.endLease i p).prescale = s.prescale := by
  unfold State.endLease; split <;> rfl
@[simp] theorem State.endLease_tickLength (s : State) (i : LockIndex) (p : Port) : (s.endLease i p).tickLength = s.tickLength := by
  unfold State.endLease; split <;> rfl
@[simp] theorem State.endLease_cycleCount (s : State) (i : LockIndex) (p : Port) : (s.endLease i p).cycleCount = s.cycleCount := by
  unfold State.endLease; split <;> rfl
@[simp] theorem State.endLease_barriers (s : State) (i : LockIndex) (p : Port) : (s.endLease i p).barriers = s.barriers := by
  unfold State.endLease; split <;> rfl
@[simp] theorem State.endLease_sessions (s : State) (i : LockIndex) (p : Port) : (s.endLease i p).sessions = s.sessions := by
  unfold State.endLease; split <;> rfl
@[simp] theorem State.endLease_supervisor (s : State) (i : LockIndex) (p : Port) : (s.endLease i p).supervisor = s.supervisor := by
  unfold State.endLease; split <;> rfl
@[simp] theorem State.endLease_engine (s : State) (i : LockIndex) (p : Port) : (s.endLease i p).engine = s.engine := by
  unfold State.endLease; split <;> rfl
@[simp] theorem State.endLease_departureQueue (s : State) (i : LockIndex) (p : Port) : (s.endLease i p).departureQueue = s.departureQueue := by
  unfold State.endLease; split <;> rfl
@[simp] theorem State.endLease_resetLow (s : State) (i : LockIndex) (p : Port) : (s.endLease i p).resetLow = s.resetLow := by
  unfold State.endLease; split <;> rfl
@[simp] theorem State.endLease_prstLow (s : State) (i : LockIndex) (p : Port) : (s.endLease i p).prstLow = s.prstLow := by
  unfold State.endLease; split <;> rfl
@[simp] theorem State.endLease_pending (s : State) (i : LockIndex) (p : Port) : (s.endLease i p).pending = s.pending := by
  unfold State.endLease; split <;> rfl
@[simp] theorem State.endLease_interface (s : State) (i : LockIndex) (p : Port) (k : Port) : (s.endLease i p).interface k = s.interface k := by
  simp [State.interface]
@[simp] theorem State.endLease_unit (s : State) (i : LockIndex) (p : Port) (k : Port) : (s.endLease i p).unit k = s.unit k := by
  simp [State.unit]
@[simp] theorem State.endLease_lock (s : State) (i : LockIndex) (p : Port) (k : LockIndex) : (s.endLease i p).lock k = s.lock k := by
  simp [State.lock]
@[simp] theorem State.endLease_pool (s : State) (i : LockIndex) (p : Port) (k : Port) : (s.endLease i p).pool k = s.pool k := by
  simp [State.pool]
@[simp] theorem State.endLease_barrier (s : State) (i : LockIndex) (p : Port) (k : BarrierIndex) : (s.endLease i p).barrier k = s.barrier k := by
  simp [State.barrier]
@[simp] theorem State.endLease_session (s : State) (i : LockIndex) (p : Port) (k : Port) : (s.endLease i p).session k = s.session k := by
  simp [State.session]
@[simp] theorem State.endLease_held (s : State) (i : LockIndex) (p : Port) (k : Port) : (s.endLease i p).held k = s.held k := by
  simp [State.held]
@[simp] theorem State.endLease_attached (s : State) (i : LockIndex) (p : Port) (k : Port) : (s.endLease i p).attached k = s.attached k := by
  simp [State.attached, State.session]
@[simp] theorem State.endLease_handleOf (s : State) (i : LockIndex) (p : Port) (k : LockIndex) : (s.endLease i p).handleOf k = s.handleOf k := by
  simp [State.handleOf, State.lock]

/-! ### renewKeepalive -/

@[simp] theorem State.renewKeepalive_interfaces (s : State) (p : Port) : (s.renewKeepalive p).interfaces = s.interfaces := by
  unfold State.renewKeepalive; split <;> rfl
@[simp] theorem State.renewKeepalive_units (s : State) (p : Port) : (s.renewKeepalive p).units = s.units := by
  unfold State.renewKeepalive; split <;> rfl
@[simp] theorem State.renewKeepalive_locks (s : State) (p : Port) : (s.renewKeepalive p).locks = s.locks := by
  unfold State.renewKeepalive; split <;> rfl
@[simp] theorem State.renewKeepalive_freeLocks (s : State) (p : Port) : (s.renewKeepalive p).freeLocks = s.freeLocks := by
  unfold State.renewKeepalive; split <;> rfl
@[simp] theorem State.renewKeepalive_freeRecords (s : State) (p : Port) : (s.renewKeepalive p).freeRecords = s.freeRecords := by
  unfold State.renewKeepalive; split <;> rfl
@[simp] theorem State.renewKeepalive_poolPorts (s : State) (p : Port) : (s.renewKeepalive p).poolPorts = s.poolPorts := by
  unfold State.renewKeepalive; split <;> rfl
@[simp] theorem State.renewKeepalive_tick (s : State) (p : Port) : (s.renewKeepalive p).tick = s.tick := by
  unfold State.renewKeepalive; split <;> rfl
@[simp] theorem State.renewKeepalive_prescale (s : State) (p : Port) : (s.renewKeepalive p).prescale = s.prescale := by
  unfold State.renewKeepalive; split <;> rfl
@[simp] theorem State.renewKeepalive_tickLength (s : State) (p : Port) : (s.renewKeepalive p).tickLength = s.tickLength := by
  unfold State.renewKeepalive; split <;> rfl
@[simp] theorem State.renewKeepalive_cycleCount (s : State) (p : Port) : (s.renewKeepalive p).cycleCount = s.cycleCount := by
  unfold State.renewKeepalive; split <;> rfl
@[simp] theorem State.renewKeepalive_inboxes (s : State) (p : Port) : (s.renewKeepalive p).inboxes = s.inboxes := by
  unfold State.renewKeepalive; split <;> rfl
@[simp] theorem State.renewKeepalive_barriers (s : State) (p : Port) : (s.renewKeepalive p).barriers = s.barriers := by
  unfold State.renewKeepalive; split <;> rfl
@[simp] theorem State.renewKeepalive_sessions (s : State) (p : Port) : (s.renewKeepalive p).sessions = s.sessions := by
  unfold State.renewKeepalive; split <;> rfl
@[simp] theorem State.renewKeepalive_supervisor (s : State) (p : Port) : (s.renewKeepalive p).supervisor = s.supervisor := by
  unfold State.renewKeepalive; split <;> rfl
@[simp] theorem State.renewKeepalive_engine (s : State) (p : Port) : (s.renewKeepalive p).engine = s.engine := by
  unfold State.renewKeepalive; split <;> rfl
@[simp] theorem State.renewKeepalive_departureQueue (s : State) (p : Port) : (s.renewKeepalive p).departureQueue = s.departureQueue := by
  unfold State.renewKeepalive; split <;> rfl
@[simp] theorem State.renewKeepalive_resetLow (s : State) (p : Port) : (s.renewKeepalive p).resetLow = s.resetLow := by
  unfold State.renewKeepalive; split <;> rfl
@[simp] theorem State.renewKeepalive_prstLow (s : State) (p : Port) : (s.renewKeepalive p).prstLow = s.prstLow := by
  unfold State.renewKeepalive; split <;> rfl
@[simp] theorem State.renewKeepalive_pending (s : State) (p : Port) : (s.renewKeepalive p).pending = s.pending := by
  unfold State.renewKeepalive; split <;> rfl
@[simp] theorem State.renewKeepalive_interface (s : State) (p : Port) (k : Port) : (s.renewKeepalive p).interface k = s.interface k := by
  simp [State.interface]
@[simp] theorem State.renewKeepalive_unit (s : State) (p : Port) (k : Port) : (s.renewKeepalive p).unit k = s.unit k := by
  simp [State.unit]
@[simp] theorem State.renewKeepalive_lock (s : State) (p : Port) (k : LockIndex) : (s.renewKeepalive p).lock k = s.lock k := by
  simp [State.lock]
@[simp] theorem State.renewKeepalive_pool (s : State) (p : Port) (k : Port) : (s.renewKeepalive p).pool k = s.pool k := by
  simp [State.pool]
@[simp] theorem State.renewKeepalive_inbox (s : State) (p : Port) (k : Port) : (s.renewKeepalive p).inbox k = s.inbox k := by
  simp [State.inbox]
@[simp] theorem State.renewKeepalive_barrier (s : State) (p : Port) (k : BarrierIndex) : (s.renewKeepalive p).barrier k = s.barrier k := by
  simp [State.barrier]
@[simp] theorem State.renewKeepalive_session (s : State) (p : Port) (k : Port) : (s.renewKeepalive p).session k = s.session k := by
  simp [State.session]
@[simp] theorem State.renewKeepalive_held (s : State) (p : Port) (k : Port) : (s.renewKeepalive p).held k = s.held k := by
  simp [State.held]
@[simp] theorem State.renewKeepalive_attached (s : State) (p : Port) (k : Port) : (s.renewKeepalive p).attached k = s.attached k := by
  simp [State.attached, State.session]
@[simp] theorem State.renewKeepalive_freeRoom (s : State) (p : Port) (k : Port) : (s.renewKeepalive p).freeRoom k = s.freeRoom k := by
  simp [State.freeRoom, State.inbox]
@[simp] theorem State.renewKeepalive_handleOf (s : State) (p : Port) (k : LockIndex) : (s.renewKeepalive p).handleOf k = s.handleOf k := by
  simp [State.handleOf, State.lock]

/-! ### grantHead -/

@[simp] theorem State.grantHead_interfaces (s : State) (i : LockIndex) (w : WaiterRecord) : (s.grantHead i w).interfaces = s.interfaces := by
  unfold State.grantHead; dsimp only; split <;> simp
@[simp] theorem State.grantHead_units (s : State) (i : LockIndex) (w : WaiterRecord) : (s.grantHead i w).units = s.units := by
  unfold State.grantHead; dsimp only; split <;> simp
@[simp] theorem State.grantHead_freeLocks (s : State) (i : LockIndex) (w : WaiterRecord) : (s.grantHead i w).freeLocks = s.freeLocks := by
  unfold State.grantHead; dsimp only; split <;> simp
@[simp] theorem State.grantHead_tick (s : State) (i : LockIndex) (w : WaiterRecord) : (s.grantHead i w).tick = s.tick := by
  unfold State.grantHead; dsimp only; split <;> simp
@[simp] theorem State.grantHead_prescale (s : State) (i : LockIndex) (w : WaiterRecord) : (s.grantHead i w).prescale = s.prescale := by
  unfold State.grantHead; dsimp only; split <;> simp
@[simp] theorem State.grantHead_tickLength (s : State) (i : LockIndex) (w : WaiterRecord) : (s.grantHead i w).tickLength = s.tickLength := by
  unfold State.grantHead; dsimp only; split <;> simp
@[simp] theorem State.grantHead_cycleCount (s : State) (i : LockIndex) (w : WaiterRecord) : (s.grantHead i w).cycleCount = s.cycleCount := by
  unfold State.grantHead; dsimp only; split <;> simp
@[simp] theorem State.grantHead_barriers (s : State) (i : LockIndex) (w : WaiterRecord) : (s.grantHead i w).barriers = s.barriers := by
  unfold State.grantHead; dsimp only; split <;> simp
@[simp] theorem State.grantHead_sessions (s : State) (i : LockIndex) (w : WaiterRecord) : (s.grantHead i w).sessions = s.sessions := by
  unfold State.grantHead; dsimp only; split <;> simp
@[simp] theorem State.grantHead_supervisor (s : State) (i : LockIndex) (w : WaiterRecord) : (s.grantHead i w).supervisor = s.supervisor := by
  unfold State.grantHead; dsimp only; split <;> simp
@[simp] theorem State.grantHead_engine (s : State) (i : LockIndex) (w : WaiterRecord) : (s.grantHead i w).engine = s.engine := by
  unfold State.grantHead; dsimp only; split <;> simp
@[simp] theorem State.grantHead_departureQueue (s : State) (i : LockIndex) (w : WaiterRecord) : (s.grantHead i w).departureQueue = s.departureQueue := by
  unfold State.grantHead; dsimp only; split <;> simp
@[simp] theorem State.grantHead_resetLow (s : State) (i : LockIndex) (w : WaiterRecord) : (s.grantHead i w).resetLow = s.resetLow := by
  unfold State.grantHead; dsimp only; split <;> simp
@[simp] theorem State.grantHead_prstLow (s : State) (i : LockIndex) (w : WaiterRecord) : (s.grantHead i w).prstLow = s.prstLow := by
  unfold State.grantHead; dsimp only; split <;> simp
@[simp] theorem State.grantHead_pending (s : State) (i : LockIndex) (w : WaiterRecord) : (s.grantHead i w).pending = s.pending := by
  unfold State.grantHead; dsimp only; split <;> simp
@[simp] theorem State.grantHead_interface (s : State) (i : LockIndex) (w : WaiterRecord) (k : Port) : (s.grantHead i w).interface k = s.interface k := by
  simp [State.interface]
@[simp] theorem State.grantHead_unit (s : State) (i : LockIndex) (w : WaiterRecord) (k : Port) : (s.grantHead i w).unit k = s.unit k := by
  simp [State.unit]
@[simp] theorem State.grantHead_barrier (s : State) (i : LockIndex) (w : WaiterRecord) (k : BarrierIndex) : (s.grantHead i w).barrier k = s.barrier k := by
  simp [State.barrier]
@[simp] theorem State.grantHead_session (s : State) (i : LockIndex) (w : WaiterRecord) (k : Port) : (s.grantHead i w).session k = s.session k := by
  simp [State.session]
@[simp] theorem State.grantHead_held (s : State) (i : LockIndex) (w : WaiterRecord) (k : Port) : (s.grantHead i w).held k = s.held k := by
  simp [State.held]
@[simp] theorem State.grantHead_attached (s : State) (i : LockIndex) (w : WaiterRecord) (k : Port) : (s.grantHead i w).attached k = s.attached k := by
  simp [State.attached, State.session]

end Sys2Proof.Machine
end

