-- ==== Sys2Proof/Laws/Evaluation.lean ====
section
/-! SUPPORT. Grant evaluation, once: the induction over its steps, what it leaves as it was, where it stops, and that it
takes records off the head of the queue only. -/

namespace Sys2Proof.Machine

/-- The one induction over grant evaluation (R39): what every removal of a departed head and every grant of a live,
compatible head keeps, evaluation keeps. -/
theorem State.evaluateSteps_keeps {P : State → Prop} (i : LockIndex)
    (removed : ∀ (t : State) (w : WaiterRecord) (rest : List WaiterRecord), P t → (t.lock i).queue = w :: rest →
      t.attached w.requester.port = false → P (t.discardRecord i w))
    (granted : ∀ (t : State) (w : WaiterRecord) (rest : List WaiterRecord), P t → (t.lock i).queue = w :: rest →
      t.attached w.requester.port = true → (t.lock i).compatible w.mode = true → P (t.grantHead i w)) :
    ∀ (n : Nat) (s : State), P s → P (s.evaluateSteps i n)
  | 0, _, h => h
  | n + 1, s, h => by
    unfold State.evaluateSteps
    split
    · exact h
    · rename_i w rest hq
      split
      · exact State.evaluateSteps_keeps i removed granted n _ (removed s w rest h hq ‹_›)
      · rename_i live
        split
        · rename_i fits
          exact State.evaluateSteps_keeps i removed granted n _ (granted s w rest h hq (by simpa using live) fits)
        · exact h

/-- `State.evaluateSteps_keeps` for a whole evaluation. -/
theorem State.evaluate_keeps {P : State → Prop} (i : LockIndex) (s : State) (h : P s)
    (removed : ∀ (t : State) (w : WaiterRecord) (rest : List WaiterRecord), P t → (t.lock i).queue = w :: rest →
      t.attached w.requester.port = false → P (t.discardRecord i w))
    (granted : ∀ (t : State) (w : WaiterRecord) (rest : List WaiterRecord), P t → (t.lock i).queue = w :: rest →
      t.attached w.requester.port = true → (t.lock i).compatible w.mode = true → P (t.grantHead i w)) :
    P (s.evaluate i) :=
  State.evaluateSteps_keeps i removed granted _ s h

/-- A part that a discard and a grant leave as it was, evaluation leaves as it was. -/
theorem State.evaluate_same {α : Type} (f : State → α) (i : LockIndex) (s : State)
    (removed : ∀ (t : State) (w : WaiterRecord), f (t.discardRecord i w) = f t)
    (granted : ∀ (t : State) (w : WaiterRecord), f (t.grantHead i w) = f t) : f (s.evaluate i) = f s :=
  State.evaluate_keeps (P := fun t => f t = f s) i s rfl (fun t w _ h _ _ => (removed t w).trans h)
    fun t w _ h _ _ _ => (granted t w).trans h

/-- Evaluation at lock `i` with an empty queue does nothing (R39 step 1). -/
theorem State.evaluate_of_queue_nil (s : State) (i : LockIndex) (h : (s.lock i).queue = []) : s.evaluate i = s := by
  simp [State.evaluate, h, State.evaluateSteps]

/-! ### What evaluation leaves as it was -/

@[simp] theorem State.evaluate_interfaces (s : State) (i : LockIndex) : (s.evaluate i).interfaces = s.interfaces :=
  State.evaluate_same (·.interfaces) i s (by simp) (by simp)
@[simp] theorem State.evaluate_units (s : State) (i : LockIndex) : (s.evaluate i).units = s.units :=
  State.evaluate_same (·.units) i s (by simp) (by simp)
@[simp] theorem State.evaluate_freeLocks (s : State) (i : LockIndex) : (s.evaluate i).freeLocks = s.freeLocks :=
  State.evaluate_same (·.freeLocks) i s (by simp) (by simp)
@[simp] theorem State.evaluate_barriers (s : State) (i : LockIndex) : (s.evaluate i).barriers = s.barriers :=
  State.evaluate_same (·.barriers) i s (by simp) (by simp)
@[simp] theorem State.evaluate_sessions (s : State) (i : LockIndex) : (s.evaluate i).sessions = s.sessions :=
  State.evaluate_same (·.sessions) i s (by simp) (by simp)
@[simp] theorem State.evaluate_supervisor (s : State) (i : LockIndex) : (s.evaluate i).supervisor = s.supervisor :=
  State.evaluate_same (·.supervisor) i s (by simp) (by simp)
@[simp] theorem State.evaluate_engine (s : State) (i : LockIndex) : (s.evaluate i).engine = s.engine :=
  State.evaluate_same (·.engine) i s (by simp) (by simp)
@[simp] theorem State.evaluate_departureQueue (s : State) (i : LockIndex) : (s.evaluate i).departureQueue = s.departureQueue :=
  State.evaluate_same (·.departureQueue) i s (by simp) (by simp)
@[simp] theorem State.evaluate_tick (s : State) (i : LockIndex) : (s.evaluate i).tick = s.tick :=
  State.evaluate_same (·.tick) i s (by simp) (by simp)
@[simp] theorem State.evaluate_prescale (s : State) (i : LockIndex) : (s.evaluate i).prescale = s.prescale :=
  State.evaluate_same (·.prescale) i s (by simp) (by simp)
@[simp] theorem State.evaluate_tickLength (s : State) (i : LockIndex) : (s.evaluate i).tickLength = s.tickLength :=
  State.evaluate_same (·.tickLength) i s (by simp) (by simp)
@[simp] theorem State.evaluate_cycleCount (s : State) (i : LockIndex) : (s.evaluate i).cycleCount = s.cycleCount :=
  State.evaluate_same (·.cycleCount) i s (by simp) (by simp)
@[simp] theorem State.evaluate_resetLow (s : State) (i : LockIndex) : (s.evaluate i).resetLow = s.resetLow :=
  State.evaluate_same (·.resetLow) i s (by simp) (by simp)
@[simp] theorem State.evaluate_prstLow (s : State) (i : LockIndex) : (s.evaluate i).prstLow = s.prstLow :=
  State.evaluate_same (·.prstLow) i s (by simp) (by simp)
@[simp] theorem State.evaluate_pending (s : State) (i : LockIndex) : (s.evaluate i).pending = s.pending :=
  State.evaluate_same (·.pending) i s (by simp) (by simp)
@[simp] theorem State.evaluate_interface (s : State) (i : LockIndex) (k : Port) : (s.evaluate i).interface k = s.interface k :=
  State.evaluate_same (·.interface k) i s (by simp) (by simp)
@[simp] theorem State.evaluate_unit (s : State) (i : LockIndex) (k : Port) : (s.evaluate i).unit k = s.unit k :=
  State.evaluate_same (·.unit k) i s (by simp) (by simp)
@[simp] theorem State.evaluate_barrier (s : State) (i : LockIndex) (k : BarrierIndex) : (s.evaluate i).barrier k = s.barrier k :=
  State.evaluate_same (·.barrier k) i s (by simp) (by simp)
@[simp] theorem State.evaluate_session (s : State) (i : LockIndex) (k : Port) : (s.evaluate i).session k = s.session k :=
  State.evaluate_same (·.session k) i s (by simp) (by simp)
@[simp] theorem State.evaluate_held (s : State) (i : LockIndex) (k : Port) : (s.evaluate i).held k = s.held k :=
  State.evaluate_same (·.held k) i s (by simp) (by simp)
@[simp] theorem State.evaluate_attached (s : State) (i : LockIndex) (k : Port) : (s.evaluate i).attached k = s.attached k :=
  State.evaluate_same (·.attached k) i s (by simp) (by simp)

/-! ### The lock a record leaves, and a grant changes -/

theorem State.freeRecord_lock (s : State) (i : LockIndex) (w : WaiterRecord) (k : LockIndex) :
    (s.freeRecord i w).lock k = if k = i then { s.lock i with queue := (s.lock i).queue.erase w } else s.lock k :=
  State.setLock_lock s i _ k

theorem State.discardRecord_lock (s : State) (i : LockIndex) (w : WaiterRecord) (k : LockIndex) :
    (s.discardRecord i w).lock k = if k = i then { s.lock i with queue := (s.lock i).queue.erase w } else s.lock k :=
  State.freeRecord_lock s i w k

/-- R41, R43: the lock after the grant of record `w`: the record is off the queue, its requester holds the lock, and the
mark is cleared. No other lock changes. -/
theorem State.grantHead_lock (s : State) (i : LockIndex) (w : WaiterRecord) (k : LockIndex) :
    (s.grantHead i w).lock k =
      if k = i then ({ s.lock i with queue := (s.lock i).queue.erase w } : LockEntry).grantTo w.requester w.mode
      else s.lock k := by
  unfold State.grantHead
  dsimp only
  split <;> simp [State.setLock_lock, State.freeRecord_lock] <;> split <;> simp_all

/-- Evaluation at lock `i` leaves every other lock as it was. -/
theorem State.evaluate_lock_ne (s : State) (i k : LockIndex) (h : k ≠ i) : (s.evaluate i).lock k = s.lock k :=
  State.evaluate_same (·.lock k) i s (by simp [State.discardRecord_lock, h]) (by simp [State.grantHead_lock, h])

@[simp] theorem LockEntry.grantTo_queue (e : LockEntry) (r : Requester) (m : Mode) : (e.grantTo r m).queue = e.queue := by
  cases m <;> rfl

@[simp] theorem LockEntry.grantTo_state (e : LockEntry) (r : Requester) (m : Mode) : (e.grantTo r m).state = e.state := by
  cases m <;> rfl

@[simp] theorem LockEntry.grantTo_kind (e : LockEntry) (r : Requester) (m : Mode) : (e.grantTo r m).kind = e.kind := by
  cases m <;> rfl

@[simp] theorem LockEntry.grantTo_generation (e : LockEntry) (r : Requester) (m : Mode) :
    (e.grantTo r m).generation = e.generation := by
  cases m <;> rfl

@[simp] theorem LockEntry.grantTo_allocator (e : LockEntry) (r : Requester) (m : Mode) :
    (e.grantTo r m).allocator = e.allocator := by
  cases m <;> rfl

@[simp] theorem LockEntry.grantTo_leasePeriod (e : LockEntry) (r : Requester) (m : Mode) :
    (e.grantTo r m).leasePeriod = e.leasePeriod := by
  cases m <;> rfl

@[simp] theorem LockEntry.grantTo_mark (e : LockEntry) (r : Requester) (m : Mode) : (e.grantTo r m).mark = .none := by
  cases m <;> rfl

/-- R7: evaluation leaves what handle validation reads, and the allocator, the kind and the lease period, as they were. -/
theorem State.evaluate_lock_kept (s : State) (i : LockIndex) :
    ((s.evaluate i).lock i).generation = (s.lock i).generation ∧ ((s.evaluate i).lock i).state = (s.lock i).state ∧
      ((s.evaluate i).lock i).kind = (s.lock i).kind ∧ ((s.evaluate i).lock i).leasePeriod = (s.lock i).leasePeriod ∧
      ((s.evaluate i).lock i).allocator = (s.lock i).allocator :=
  ⟨State.evaluate_same (fun t => (t.lock i).generation) i s (by simp [State.discardRecord_lock]) (by simp [State.grantHead_lock]),
    State.evaluate_same (fun t => (t.lock i).state) i s (by simp [State.discardRecord_lock]) (by simp [State.grantHead_lock]),
    State.evaluate_same (fun t => (t.lock i).kind) i s (by simp [State.discardRecord_lock]) (by simp [State.grantHead_lock]),
    State.evaluate_same (fun t => (t.lock i).leasePeriod) i s (by simp [State.discardRecord_lock]) (by simp [State.grantHead_lock]),
    State.evaluate_same (fun t => (t.lock i).allocator) i s (by simp [State.discardRecord_lock]) (by simp [State.grantHead_lock])⟩

/-- R38, R28: evaluation takes records off the head only: what is left is a tail of the queue, in its order. -/
theorem State.evaluate_queue_suffix (s : State) (i : LockIndex) : ((s.evaluate i).lock i).queue <:+ (s.lock i).queue :=
  State.evaluate_keeps (P := fun t => (t.lock i).queue <:+ (s.lock i).queue) i s (List.suffix_refl _)
    (fun t w rest h hq _ => by
      have : ((t.discardRecord i w).lock i).queue = rest := by simp [State.discardRecord_lock, hq]
      rw [this]; exact (List.suffix_cons w rest).trans (hq ▸ h))
    fun t w rest h hq _ _ => by
      have : ((t.grantHead i w).lock i).queue = rest := by simp [State.grantHead_lock, hq]
      rw [this]; exact (List.suffix_cons w rest).trans (hq ▸ h)

end Sys2Proof.Machine
end

