-- ==== Sys2Proof/Laws/Blocks.lean ====
section
/-! SUPPORT. What the owner's taking of a request, a departure, and the deliveries of a barrier can do, said once. -/

namespace Sys2Proof.Machine

/-! ### Taking a request (R153) -/

/-- The three things that can happen when an owner takes port `p`'s request for command `c`: no such request is there and
nothing happens; the request is refused DEPARTED; the owner decides it. -/
theorem State.serve_cases (s : State) (p : Port) (c : Command) (owner : Port → Args → State → State × Answer) :
    s.serve p c owner = s ∨
    s.serve p c owner = s.answer p (.bare .departed) ∨
    ∃ a, (s.unit p).inFlight = some ⟨c, a, .handed false⟩ ∧ (c = .attach ∨ s.attached p = true) ∧
      s.serve p c owner = (owner p a s).1.answer p (owner p a s).2 := by
  unfold State.serve
  split
  · rename_i c' args departed hf
    split
    · exact .inl rfl
    · rename_i hc
      split
      · exact .inr (.inl rfl)
      · rename_i hd
        simp only [ne_eq, Decidable.not_not] at hc
        simp only [not_or, Bool.not_eq_true, not_and] at hd
        refine .inr (.inr ⟨args, by rw [hf, hc, hd.1], ?_, rfl⟩)
        by_cases hattach : c = .attach
        · exact .inl hattach
        · exact .inr (by simpa using hd.2 hattach)
  · exact .inl rfl

/-- A request that is there, of an ATTACHED port, is decided by its owner. -/
theorem State.serve_of_requests {s : State} {p : Port} {c : Command} {a : Args} (h : Requests s p c a)
    (owner : Port → Args → State → State × Answer) :
    s.serve p c owner = (owner p a s).1.answer p (owner p a s).2 := by
  simp [State.serve, h.1, h.2]

/-- What every refusal, and the owner's own effect, keeps, the taking of the request keeps. -/
theorem State.serve_keeps {P : State → Prop} (s : State) (p : Port) (c : Command)
    (owner : Port → Args → State → State × Answer) (h : P s) (answered : ∀ t a, P t → P (t.answer p a))
    (owned : ∀ a, (s.unit p).inFlight = some ⟨c, a, .handed false⟩ → (c = .attach ∨ s.attached p = true) → P (owner p a s).1) :
    P (s.serve p c owner) := by
  obtain h1 | h1 | ⟨a, hf, hc, h1⟩ := s.serve_cases p c owner
  · rw [h1]; exact h
  · rw [h1]; exact answered _ _ h
  · rw [h1]; exact answered _ _ (owned a hf hc)

/-- The answered unit (R153): only the progress of the command in flight changes. -/
theorem State.answer_unit (s : State) (p : Port) (a : Answer) (k : Port) :
    (s.answer p a).unit k =
      if k = p then { s.unit p with inFlight := (s.unit p).inFlight.map fun f => { f with progress := .answered a } }
      else s.unit k :=
  State.setUnit_unit s p _ k

/-! ### Departure (R122) -/

/-! What a departure leaves as it was: the locks, the waiter pool, the barriers and the windows belong to the sweep (R122). -/

@[simp] theorem State.depart_interfaces (s : State) (p : Port) (c : Cause) : (s.depart p c).interfaces = s.interfaces := by
  unfold State.depart State.handToSweep; dsimp only; split <;> rfl
@[simp] theorem State.depart_locks (s : State) (p : Port) (c : Cause) : (s.depart p c).locks = s.locks := by
  unfold State.depart State.handToSweep; dsimp only; split <;> rfl
@[simp] theorem State.depart_freeLocks (s : State) (p : Port) (c : Cause) : (s.depart p c).freeLocks = s.freeLocks := by
  unfold State.depart State.handToSweep; dsimp only; split <;> rfl
@[simp] theorem State.depart_freeRecords (s : State) (p : Port) (c : Cause) : (s.depart p c).freeRecords = s.freeRecords := by
  unfold State.depart State.handToSweep; dsimp only; split <;> rfl
@[simp] theorem State.depart_poolPorts (s : State) (p : Port) (c : Cause) : (s.depart p c).poolPorts = s.poolPorts := by
  unfold State.depart State.handToSweep; dsimp only; split <;> rfl
@[simp] theorem State.depart_tick (s : State) (p : Port) (c : Cause) : (s.depart p c).tick = s.tick := by
  unfold State.depart State.handToSweep; dsimp only; split <;> rfl
@[simp] theorem State.depart_prescale (s : State) (p : Port) (c : Cause) : (s.depart p c).prescale = s.prescale := by
  unfold State.depart State.handToSweep; dsimp only; split <;> rfl
@[simp] theorem State.depart_tickLength (s : State) (p : Port) (c : Cause) : (s.depart p c).tickLength = s.tickLength := by
  unfold State.depart State.handToSweep; dsimp only; split <;> rfl
@[simp] theorem State.depart_cycleCount (s : State) (p : Port) (c : Cause) : (s.depart p c).cycleCount = s.cycleCount := by
  unfold State.depart State.handToSweep; dsimp only; split <;> rfl
@[simp] theorem State.depart_barriers (s : State) (p : Port) (c : Cause) : (s.depart p c).barriers = s.barriers := by
  unfold State.depart State.handToSweep; dsimp only; split <;> rfl
@[simp] theorem State.depart_supervisor (s : State) (p : Port) (c : Cause) : (s.depart p c).supervisor = s.supervisor := by
  unfold State.depart State.handToSweep; dsimp only; split <;> rfl
@[simp] theorem State.depart_resetLow (s : State) (p : Port) (c : Cause) : (s.depart p c).resetLow = s.resetLow := by
  unfold State.depart State.handToSweep; dsimp only; split <;> rfl
@[simp] theorem State.depart_prstLow (s : State) (p : Port) (c : Cause) : (s.depart p c).prstLow = s.prstLow := by
  unfold State.depart State.handToSweep; dsimp only; split <;> rfl
@[simp] theorem State.depart_pending (s : State) (p : Port) (c : Cause) : (s.depart p c).pending = s.pending := by
  unfold State.depart State.handToSweep; dsimp only; split <;> rfl
@[simp] theorem State.depart_interface (s : State) (p : Port) (c : Cause) (k : Port) : (s.depart p c).interface k = s.interface k := by
  unfold State.depart State.handToSweep; dsimp only; split <;> rfl
@[simp] theorem State.depart_lock (s : State) (p : Port) (c : Cause) (k : LockIndex) : (s.depart p c).lock k = s.lock k := by
  unfold State.depart State.handToSweep; dsimp only; split <;> rfl
@[simp] theorem State.depart_pool (s : State) (p : Port) (c : Cause) (k : Port) : (s.depart p c).pool k = s.pool k := by
  unfold State.depart State.handToSweep; dsimp only; split <;> rfl
@[simp] theorem State.depart_barrier (s : State) (p : Port) (c : Cause) (k : BarrierIndex) : (s.depart p c).barrier k = s.barrier k := by
  unfold State.depart State.handToSweep; dsimp only; split <;> rfl
@[simp] theorem State.depart_held (s : State) (p : Port) (c : Cause) (k : Port) : (s.depart p c).held k = s.held k := by
  unfold State.depart State.handToSweep; dsimp only; split <;> rfl

/-- The session records after a departure: the port's record has the cause and its new state; no other record changes. -/
theorem State.depart_session (s : State) (p : Port) (c : Cause) (k : Port) :
    (s.depart p c).session k =
      if k = p then
        { s.session p with lastCause := c, state := if s.engine = .idle then .sweeping else .pendingSweep }
      else s.session k := by
  unfold State.depart State.handToSweep
  dsimp only
  split <;> rename_i he <;> by_cases hk : k = p <;>
    simp_all [State.session, State.setSession, State.setUnit, State.flush, State.setInbox, State.removeDeadline, Fin.ext_iff,
      Vector.getElem_set] <;> omega

/-- The engine and the departure queue after a departure (R122 step 4, R134). -/
theorem State.depart_engine (s : State) (p : Port) (c : Cause) :
    ((s.depart p c).engine, (s.depart p c).departureQueue) =
      if s.engine = .idle then (.busy p (.locks 0), s.departureQueue) else (s.engine, s.departureQueue ++ [p]) := by
  unfold State.depart State.handToSweep
  dsimp only
  split <;> rename_i he <;> simp_all [State.setSession, State.setUnit, State.flush, State.setInbox, State.removeDeadline]

/-- The inboxes after a departure: the port's is flushed and keeps its reservation count (R87). -/
theorem State.depart_inbox (s : State) (p : Port) (c : Cause) (k : Port) :
    (s.depart p c).inbox k = if k = p then { s.inbox p with entries := [] } else s.inbox k := by
  have : (s.depart p c).inbox k = (s.flush p).inbox k := by
    unfold State.depart State.handToSweep
    dsimp only
    split <;> rfl
  rw [this]
  exact State.setInbox_inbox s p _ k

/-- The deadline list after a departure: the port's keepalive deadline is gone (R58). -/
theorem State.depart_deadlines (s : State) (p : Port) (c : Cause) :
    (s.depart p c).deadlines = s.deadlines.filter fun d => d.object != .keepalive p := by
  unfold State.depart State.handToSweep
  dsimp only
  split <;> rfl

/-- The command units after a departure: a request the port's owner has not taken is marked (R115, R126). -/
theorem State.depart_unit (s : State) (p : Port) (c : Cause) (k : Port) :
    (s.depart p c).unit k = if k = p then (s.unit p).markDeparted else s.unit k := by
  have : (s.depart p c).unit k = (s.setUnit p (s.unit p).markDeparted).unit k := by
    unfold State.depart State.handToSweep
    dsimp only
    split <;> rfl
  rw [this]
  exact State.setUnit_unit s p _ k

/-! ### Deliveries of a barrier (R97, R100, R104) -/

/-- What one reserved delivery keeps, the deliveries of a barrier keep. -/
theorem State.deliverToAll_keeps {P : State → Prop} (body : EntryBody) (rs : List Requester) :
    ∀ s : State, P s → (∀ t p e, P t → P (t.deliverReserved p e)) → P (s.deliverToAll body rs) := by
  induction rs with
  | nil => intro s h _; exact h
  | cons r rs ih => intro s h step; exact ih _ (step s r.port ⟨r.agent, body⟩ h) step

@[simp] theorem State.deliverToAll_interfaces (s : State) (body : EntryBody) (rs : List Requester) : (s.deliverToAll body rs).interfaces = s.interfaces := 
  State.deliverToAll_keeps (P := fun t => t.interfaces = s.interfaces) body rs s rfl fun t p e h => by rw [← h]; simp
@[simp] theorem State.deliverToAll_units (s : State) (body : EntryBody) (rs : List Requester) : (s.deliverToAll body rs).units = s.units := 
  State.deliverToAll_keeps (P := fun t => t.units = s.units) body rs s rfl fun t p e h => by rw [← h]; simp
@[simp] theorem State.deliverToAll_locks (s : State) (body : EntryBody) (rs : List Requester) : (s.deliverToAll body rs).locks = s.locks := 
  State.deliverToAll_keeps (P := fun t => t.locks = s.locks) body rs s rfl fun t p e h => by rw [← h]; simp
@[simp] theorem State.deliverToAll_freeLocks (s : State) (body : EntryBody) (rs : List Requester) : (s.deliverToAll body rs).freeLocks = s.freeLocks := 
  State.deliverToAll_keeps (P := fun t => t.freeLocks = s.freeLocks) body rs s rfl fun t p e h => by rw [← h]; simp
@[simp] theorem State.deliverToAll_freeRecords (s : State) (body : EntryBody) (rs : List Requester) : (s.deliverToAll body rs).freeRecords = s.freeRecords := 
  State.deliverToAll_keeps (P := fun t => t.freeRecords = s.freeRecords) body rs s rfl fun t p e h => by rw [← h]; simp
@[simp] theorem State.deliverToAll_poolPorts (s : State) (body : EntryBody) (rs : List Requester) : (s.deliverToAll body rs).poolPorts = s.poolPorts := 
  State.deliverToAll_keeps (P := fun t => t.poolPorts = s.poolPorts) body rs s rfl fun t p e h => by rw [← h]; simp
@[simp] theorem State.deliverToAll_deadlines (s : State) (body : EntryBody) (rs : List Requester) : (s.deliverToAll body rs).deadlines = s.deadlines := 
  State.deliverToAll_keeps (P := fun t => t.deadlines = s.deadlines) body rs s rfl fun t p e h => by rw [← h]; simp
@[simp] theorem State.deliverToAll_tick (s : State) (body : EntryBody) (rs : List Requester) : (s.deliverToAll body rs).tick = s.tick := 
  State.deliverToAll_keeps (P := fun t => t.tick = s.tick) body rs s rfl fun t p e h => by rw [← h]; simp
@[simp] theorem State.deliverToAll_prescale (s : State) (body : EntryBody) (rs : List Requester) : (s.deliverToAll body rs).prescale = s.prescale := 
  State.deliverToAll_keeps (P := fun t => t.prescale = s.prescale) body rs s rfl fun t p e h => by rw [← h]; simp
@[simp] theorem State.deliverToAll_tickLength (s : State) (body : EntryBody) (rs : List Requester) : (s.deliverToAll body rs).tickLength = s.tickLength := 
  State.deliverToAll_keeps (P := fun t => t.tickLength = s.tickLength) body rs s rfl fun t p e h => by rw [← h]; simp
@[simp] theorem State.deliverToAll_cycleCount (s : State) (body : EntryBody) (rs : List Requester) : (s.deliverToAll body rs).cycleCount = s.cycleCount := 
  State.deliverToAll_keeps (P := fun t => t.cycleCount = s.cycleCount) body rs s rfl fun t p e h => by rw [← h]; simp
@[simp] theorem State.deliverToAll_barriers (s : State) (body : EntryBody) (rs : List Requester) : (s.deliverToAll body rs).barriers = s.barriers := 
  State.deliverToAll_keeps (P := fun t => t.barriers = s.barriers) body rs s rfl fun t p e h => by rw [← h]; simp
@[simp] theorem State.deliverToAll_sessions (s : State) (body : EntryBody) (rs : List Requester) : (s.deliverToAll body rs).sessions = s.sessions := 
  State.deliverToAll_keeps (P := fun t => t.sessions = s.sessions) body rs s rfl fun t p e h => by rw [← h]; simp
@[simp] theorem State.deliverToAll_supervisor (s : State) (body : EntryBody) (rs : List Requester) : (s.deliverToAll body rs).supervisor = s.supervisor := 
  State.deliverToAll_keeps (P := fun t => t.supervisor = s.supervisor) body rs s rfl fun t p e h => by rw [← h]; simp
@[simp] theorem State.deliverToAll_engine (s : State) (body : EntryBody) (rs : List Requester) : (s.deliverToAll body rs).engine = s.engine := 
  State.deliverToAll_keeps (P := fun t => t.engine = s.engine) body rs s rfl fun t p e h => by rw [← h]; simp
@[simp] theorem State.deliverToAll_departureQueue (s : State) (body : EntryBody) (rs : List Requester) : (s.deliverToAll body rs).departureQueue = s.departureQueue := 
  State.deliverToAll_keeps (P := fun t => t.departureQueue = s.departureQueue) body rs s rfl fun t p e h => by rw [← h]; simp
@[simp] theorem State.deliverToAll_resetLow (s : State) (body : EntryBody) (rs : List Requester) : (s.deliverToAll body rs).resetLow = s.resetLow := 
  State.deliverToAll_keeps (P := fun t => t.resetLow = s.resetLow) body rs s rfl fun t p e h => by rw [← h]; simp
@[simp] theorem State.deliverToAll_prstLow (s : State) (body : EntryBody) (rs : List Requester) : (s.deliverToAll body rs).prstLow = s.prstLow := 
  State.deliverToAll_keeps (P := fun t => t.prstLow = s.prstLow) body rs s rfl fun t p e h => by rw [← h]; simp
@[simp] theorem State.deliverToAll_pending (s : State) (body : EntryBody) (rs : List Requester) : (s.deliverToAll body rs).pending = s.pending := 
  State.deliverToAll_keeps (P := fun t => t.pending = s.pending) body rs s rfl fun t p e h => by rw [← h]; simp
@[simp] theorem State.deliverToAll_lock (s : State) (body : EntryBody) (rs : List Requester) (k : LockIndex) : (s.deliverToAll body rs).lock k = s.lock k := 
  State.deliverToAll_keeps (P := fun t => t.lock k = s.lock k) body rs s rfl fun t p e h => by rw [← h]; simp
@[simp] theorem State.deliverToAll_barrier (s : State) (body : EntryBody) (rs : List Requester) (k : BarrierIndex) : (s.deliverToAll body rs).barrier k = s.barrier k := 
  State.deliverToAll_keeps (P := fun t => t.barrier k = s.barrier k) body rs s rfl fun t p e h => by rw [← h]; simp
@[simp] theorem State.deliverToAll_session (s : State) (body : EntryBody) (rs : List Requester) (k : Port) : (s.deliverToAll body rs).session k = s.session k := 
  State.deliverToAll_keeps (P := fun t => t.session k = s.session k) body rs s rfl fun t p e h => by rw [← h]; simp
@[simp] theorem State.deliverToAll_unit (s : State) (body : EntryBody) (rs : List Requester) (k : Port) : (s.deliverToAll body rs).unit k = s.unit k := 
  State.deliverToAll_keeps (P := fun t => t.unit k = s.unit k) body rs s rfl fun t p e h => by rw [← h]; simp
@[simp] theorem State.deliverToAll_attached (s : State) (body : EntryBody) (rs : List Requester) (k : Port) : (s.deliverToAll body rs).attached k = s.attached k := 
  State.deliverToAll_keeps (P := fun t => t.attached k = s.attached k) body rs s rfl fun t p e h => by rw [← h]; simp

/-! ### Opening and breaking (R100, R104) -/

@[simp] theorem State.openBarrier_interfaces (s : State) (b : BarrierIndex) : (s.openBarrier b).interfaces = s.interfaces := by simp [State.openBarrier]
@[simp] theorem State.openBarrier_units (s : State) (b : BarrierIndex) : (s.openBarrier b).units = s.units := by simp [State.openBarrier]
@[simp] theorem State.openBarrier_locks (s : State) (b : BarrierIndex) : (s.openBarrier b).locks = s.locks := by simp [State.openBarrier]
@[simp] theorem State.openBarrier_freeLocks (s : State) (b : BarrierIndex) : (s.openBarrier b).freeLocks = s.freeLocks := by simp [State.openBarrier]
@[simp] theorem State.openBarrier_freeRecords (s : State) (b : BarrierIndex) : (s.openBarrier b).freeRecords = s.freeRecords := by simp [State.openBarrier]
@[simp] theorem State.openBarrier_poolPorts (s : State) (b : BarrierIndex) : (s.openBarrier b).poolPorts = s.poolPorts := by simp [State.openBarrier]
@[simp] theorem State.openBarrier_deadlines (s : State) (b : BarrierIndex) : (s.openBarrier b).deadlines = s.deadlines := by simp [State.openBarrier]
@[simp] theorem State.openBarrier_tick (s : State) (b : BarrierIndex) : (s.openBarrier b).tick = s.tick := by simp [State.openBarrier]
@[simp] theorem State.openBarrier_prescale (s : State) (b : BarrierIndex) : (s.openBarrier b).prescale = s.prescale := by simp [State.openBarrier]
@[simp] theorem State.openBarrier_tickLength (s : State) (b : BarrierIndex) : (s.openBarrier b).tickLength = s.tickLength := by simp [State.openBarrier]
@[simp] theorem State.openBarrier_cycleCount (s : State) (b : BarrierIndex) : (s.openBarrier b).cycleCount = s.cycleCount := by simp [State.openBarrier]
@[simp] theorem State.openBarrier_sessions (s : State) (b : BarrierIndex) : (s.openBarrier b).sessions = s.sessions := by simp [State.openBarrier]
@[simp] theorem State.openBarrier_supervisor (s : State) (b : BarrierIndex) : (s.openBarrier b).supervisor = s.supervisor := by simp [State.openBarrier]
@[simp] theorem State.openBarrier_engine (s : State) (b : BarrierIndex) : (s.openBarrier b).engine = s.engine := by simp [State.openBarrier]
@[simp] theorem State.openBarrier_departureQueue (s : State) (b : BarrierIndex) : (s.openBarrier b).departureQueue = s.departureQueue := by simp [State.openBarrier]
@[simp] theorem State.openBarrier_resetLow (s : State) (b : BarrierIndex) : (s.openBarrier b).resetLow = s.resetLow := by simp [State.openBarrier]
@[simp] theorem State.openBarrier_prstLow (s : State) (b : BarrierIndex) : (s.openBarrier b).prstLow = s.prstLow := by simp [State.openBarrier]
@[simp] theorem State.openBarrier_pending (s : State) (b : BarrierIndex) : (s.openBarrier b).pending = s.pending := by simp [State.openBarrier]
@[simp] theorem State.openBarrier_lock (s : State) (b : BarrierIndex) (k : LockIndex) : (s.openBarrier b).lock k = s.lock k := by simp [State.openBarrier]
@[simp] theorem State.openBarrier_session (s : State) (b : BarrierIndex) (k : Port) : (s.openBarrier b).session k = s.session k := by simp [State.openBarrier]
@[simp] theorem State.openBarrier_unit (s : State) (b : BarrierIndex) (k : Port) : (s.openBarrier b).unit k = s.unit k := by simp [State.openBarrier]
@[simp] theorem State.openBarrier_attached (s : State) (b : BarrierIndex) (k : Port) : (s.openBarrier b).attached k = s.attached k := by simp [State.openBarrier]
@[simp] theorem State.breakRound_interfaces (s : State) (b : BarrierIndex) (c : Port) : (s.breakRound b c).interfaces = s.interfaces := by simp [State.breakRound]
@[simp] theorem State.breakRound_units (s : State) (b : BarrierIndex) (c : Port) : (s.breakRound b c).units = s.units := by simp [State.breakRound]
@[simp] theorem State.breakRound_locks (s : State) (b : BarrierIndex) (c : Port) : (s.breakRound b c).locks = s.locks := by simp [State.breakRound]
@[simp] theorem State.breakRound_freeLocks (s : State) (b : BarrierIndex) (c : Port) : (s.breakRound b c).freeLocks = s.freeLocks := by simp [State.breakRound]
@[simp] theorem State.breakRound_freeRecords (s : State) (b : BarrierIndex) (c : Port) : (s.breakRound b c).freeRecords = s.freeRecords := by simp [State.breakRound]
@[simp] theorem State.breakRound_poolPorts (s : State) (b : BarrierIndex) (c : Port) : (s.breakRound b c).poolPorts = s.poolPorts := by simp [State.breakRound]
@[simp] theorem State.breakRound_deadlines (s : State) (b : BarrierIndex) (c : Port) : (s.breakRound b c).deadlines = s.deadlines := by simp [State.breakRound]
@[simp] theorem State.breakRound_tick (s : State) (b : BarrierIndex) (c : Port) : (s.breakRound b c).tick = s.tick := by simp [State.breakRound]
@[simp] theorem State.breakRound_prescale (s : State) (b : BarrierIndex) (c : Port) : (s.breakRound b c).prescale = s.prescale := by simp [State.breakRound]
@[simp] theorem State.breakRound_tickLength (s : State) (b : BarrierIndex) (c : Port) : (s.breakRound b c).tickLength = s.tickLength := by simp [State.breakRound]
@[simp] theorem State.breakRound_cycleCount (s : State) (b : BarrierIndex) (c : Port) : (s.breakRound b c).cycleCount = s.cycleCount := by simp [State.breakRound]
@[simp] theorem State.breakRound_sessions (s : State) (b : BarrierIndex) (c : Port) : (s.breakRound b c).sessions = s.sessions := by simp [State.breakRound]
@[simp] theorem State.breakRound_supervisor (s : State) (b : BarrierIndex) (c : Port) : (s.breakRound b c).supervisor = s.supervisor := by simp [State.breakRound]
@[simp] theorem State.breakRound_engine (s : State) (b : BarrierIndex) (c : Port) : (s.breakRound b c).engine = s.engine := by simp [State.breakRound]
@[simp] theorem State.breakRound_departureQueue (s : State) (b : BarrierIndex) (c : Port) : (s.breakRound b c).departureQueue = s.departureQueue := by simp [State.breakRound]
@[simp] theorem State.breakRound_resetLow (s : State) (b : BarrierIndex) (c : Port) : (s.breakRound b c).resetLow = s.resetLow := by simp [State.breakRound]
@[simp] theorem State.breakRound_prstLow (s : State) (b : BarrierIndex) (c : Port) : (s.breakRound b c).prstLow = s.prstLow := by simp [State.breakRound]
@[simp] theorem State.breakRound_pending (s : State) (b : BarrierIndex) (c : Port) : (s.breakRound b c).pending = s.pending := by simp [State.breakRound]
@[simp] theorem State.breakRound_lock (s : State) (b : BarrierIndex) (c : Port) (k : LockIndex) : (s.breakRound b c).lock k = s.lock k := by simp [State.breakRound]
@[simp] theorem State.breakRound_session (s : State) (b : BarrierIndex) (c : Port) (k : Port) : (s.breakRound b c).session k = s.session k := by simp [State.breakRound]
@[simp] theorem State.breakRound_unit (s : State) (b : BarrierIndex) (c : Port) (k : Port) : (s.breakRound b c).unit k = s.unit k := by simp [State.breakRound]
@[simp] theorem State.breakRound_attached (s : State) (b : BarrierIndex) (c : Port) (k : Port) : (s.breakRound b c).attached k = s.attached k := by simp [State.breakRound]

/-- The barriers after an opening (R100). -/
theorem State.openBarrier_barrier (s : State) (b k : BarrierIndex) :
    (s.openBarrier b).barrier k =
      if k = b then { s.barrier b with phase := (s.barrier b).phase + 1, arrived := [], state := .idle }
      else s.barrier k := by
  simp [State.openBarrier, State.setBarrier_barrier]

/-- The barriers after a break (R104). -/
theorem State.breakRound_barrier (s : State) (b k : BarrierIndex) (c : Port) :
    (s.breakRound b c).barrier k =
      if k = b then
        { s.barrier b with
          phase := (s.barrier b).phase + 1
          arrived := []
          state := if (s.barrier b).members.isEmpty then .idle else .broken }
      else s.barrier k := by
  simp [State.breakRound, State.setBarrier_barrier]

end Sys2Proof.Machine
end

