-- ==== Sys2Proof/Laws/PerInstr.lean ====
section
/-! SUPPORT. Statements about every command as syntax, one lemma per constructor. -/

namespace Sys2Proof.Laws.OperandRange

/-- The only operands a row bounds beyond their types are the offset of REGISTER_WRITE (R165) and bit 0 of SOFT_RESET
(R125): an ill-formed term is one of these two. -/
def Statement (i : Instr) : Prop :=
  i.wellFormed = true ∨ (∃ p off v, i = .registerWrite p off v ∧ off.plain = false) ∨
    ∃ p v, i = .softReset p v ∧ v.getLsbD 0 = false

theorem attach (p : Port) : Statement (.attach p) := .inl rfl
theorem detach (p : Port) : Statement (.detach p) := .inl rfl
theorem touch (p : Port) : Statement (.touch p) := .inl rfl
theorem forceDetach (p : Port) : Statement (.forceDetach p) := .inl rfl
theorem alloc (p : Port) : Statement (.alloc p) := .inl rfl
theorem retire (p : Port) : Statement (.retire p) := .inl rfl
theorem defineFixed (p : Port) : Statement (.defineFixed p) := .inl rfl
theorem query (p : Port) : Statement (.query p) := .inl rfl
theorem acquire (p : Port) : Statement (.acquire p) := .inl rfl
theorem release (p : Port) : Statement (.release p) := .inl rfl
theorem downgrade (p : Port) : Statement (.downgrade p) := .inl rfl
theorem renew (p : Port) : Statement (.renew p) := .inl rfl
theorem cancel (p : Port) : Statement (.cancel p) := .inl rfl
theorem post (p : Port) : Statement (.post p) := .inl rfl
theorem join (p : Port) : Statement (.join p) := .inl rfl
theorem leave (p : Port) : Statement (.leave p) := .inl rfl
theorem arrive (p : Port) : Statement (.arrive p) := .inl rfl
theorem withdraw (p : Port) : Statement (.withdraw p) := .inl rfl
theorem breakBarrier (p : Port) : Statement (.breakBarrier p) := .inl rfl
theorem rearm (p : Port) : Statement (.rearm p) := .inl rfl
theorem barrierQuery (p : Port) : Statement (.barrierQuery p) := .inl rfl
theorem completion (p : Port) : Statement (.completion p) := .inl rfl
theorem overrun (p : Port) (v : Word) : Statement (.overrun p v) := .inl rfl
theorem pop (p : Port) (v : Word) : Statement (.pop p v) := .inl rfl
theorem summaryClear (p : Port) (v : Word) : Statement (.summaryClear p v) := .inl rfl
theorem istatClear (p : Port) (v : Word) : Statement (.istatClear p v) := .inl rfl
theorem ienWrite (p : Port) (v : Word) : Statement (.ienWrite p v) := .inl rfl
theorem keepaliveIntervalWrite (p : Port) (v : Word) : Statement (.keepaliveIntervalWrite p v) := .inl rfl
theorem waiterCapWrite (p : Port) (v : Word) : Statement (.waiterCapWrite p v) := .inl rfl
theorem prescaleWrite (p : Port) (v : Word) : Statement (.prescaleWrite p v) := .inl rfl
theorem ticklRead (p : Port) : Statement (.ticklRead p) := .inl rfl
theorem registerWrite (p : Port) (off : Offset) (v : Word) : Statement (.registerWrite p off v) := by
  cases h : off.plain
  · exact .inr (.inl ⟨p, off, v, rfl, h⟩)
  · exact .inl h
theorem softReset (p : Port) (v : Word) : Statement (.softReset p v) := by
  cases h : v.getLsbD 0
  · exact .inr (.inr ⟨p, v, rfl, h⟩)
  · exact .inl h
theorem portReset (p : Port) : Statement (.portReset p) := .inl rfl
theorem deviceReset : Statement (.deviceReset) := .inl rfl
theorem resetnRelease (sup : Port) : Statement (.resetnRelease sup) := .inl rfl
theorem tick : Statement (.tick) := .inl rfl
theorem waitExpiry : Statement (.waitExpiry) := .inl rfl
theorem leaseExpiry : Statement (.leaseExpiry) := .inl rfl
theorem keepaliveExpiry : Statement (.keepaliveExpiry) := .inl rfl
theorem lockVisit : Statement (.lockVisit) := .inl rfl
theorem barrierVisit : Statement (.barrierVisit) := .inl rfl
theorem finalStep : Statement (.finalStep) := .inl rfl
theorem cmdWrite (p : Port) (v : Word) : Statement (.cmdWrite p v) := .inl rfl
theorem prstnRelease (p : Port) : Statement (.prstnRelease p) := .inl rfl

end Sys2Proof.Laws.OperandRange
end

