-- ==== Sys2Proof/Laws/Visits.lean ====
section
/-! SUPPORT. What a sweep visit and an expiry leave as they were, and the port a sweep visit clears. -/

namespace Sys2Proof.Machine

/-! ### The records of a swept port (R136) -/

/-- What the discard of one record keeps, the sweep of a lock's records keeps. -/
theorem State.sweepRecords_keeps {P : State → Prop} (s : State) (p : Port) (i : LockIndex) (h : P s)
    (step : ∀ t w, P t → P (t.discardRecord i w)) : P (s.sweepRecords p i) := by
  unfold State.sweepRecords
  generalize ((s.lock i).queue.filter fun w => w.requester.port == p) = l
  induction l generalizing s with
  | nil => exact h
  | cons w l ih => exact ih _ (step s w h)

@[simp] theorem State.sweepRecords_interfaces (s : State) (p : Port) (i : LockIndex) : (s.sweepRecords p i).interfaces = s.interfaces := 
  State.sweepRecords_keeps (P := fun t => t.interfaces = s.interfaces) s p i rfl fun t w h => by rw [← h]; simp
@[simp] theorem State.sweepRecords_units (s : State) (p : Port) (i : LockIndex) : (s.sweepRecords p i).units = s.units := 
  State.sweepRecords_keeps (P := fun t => t.units = s.units) s p i rfl fun t w h => by rw [← h]; simp
@[simp] theorem State.sweepRecords_freeLocks (s : State) (p : Port) (i : LockIndex) : (s.sweepRecords p i).freeLocks = s.freeLocks := 
  State.sweepRecords_keeps (P := fun t => t.freeLocks = s.freeLocks) s p i rfl fun t w h => by rw [← h]; simp
@[simp] theorem State.sweepRecords_tick (s : State) (p : Port) (i : LockIndex) : (s.sweepRecords p i).tick = s.tick := 
  State.sweepRecords_keeps (P := fun t => t.tick = s.tick) s p i rfl fun t w h => by rw [← h]; simp
@[simp] theorem State.sweepRecords_prescale (s : State) (p : Port) (i : LockIndex) : (s.sweepRecords p i).prescale = s.prescale := 
  State.sweepRecords_keeps (P := fun t => t.prescale = s.prescale) s p i rfl fun t w h => by rw [← h]; simp
@[simp] theorem State.sweepRecords_tickLength (s : State) (p : Port) (i : LockIndex) : (s.sweepRecords p i).tickLength = s.tickLength := 
  State.sweepRecords_keeps (P := fun t => t.tickLength = s.tickLength) s p i rfl fun t w h => by rw [← h]; simp
@[simp] theorem State.sweepRecords_cycleCount (s : State) (p : Port) (i : LockIndex) : (s.sweepRecords p i).cycleCount = s.cycleCount := 
  State.sweepRecords_keeps (P := fun t => t.cycleCount = s.cycleCount) s p i rfl fun t w h => by rw [← h]; simp
@[simp] theorem State.sweepRecords_barriers (s : State) (p : Port) (i : LockIndex) : (s.sweepRecords p i).barriers = s.barriers := 
  State.sweepRecords_keeps (P := fun t => t.barriers = s.barriers) s p i rfl fun t w h => by rw [← h]; simp
@[simp] theorem State.sweepRecords_sessions (s : State) (p : Port) (i : LockIndex) : (s.sweepRecords p i).sessions = s.sessions := 
  State.sweepRecords_keeps (P := fun t => t.sessions = s.sessions) s p i rfl fun t w h => by rw [← h]; simp
@[simp] theorem State.sweepRecords_supervisor (s : State) (p : Port) (i : LockIndex) : (s.sweepRecords p i).supervisor = s.supervisor := 
  State.sweepRecords_keeps (P := fun t => t.supervisor = s.supervisor) s p i rfl fun t w h => by rw [← h]; simp
@[simp] theorem State.sweepRecords_engine (s : State) (p : Port) (i : LockIndex) : (s.sweepRecords p i).engine = s.engine := 
  State.sweepRecords_keeps (P := fun t => t.engine = s.engine) s p i rfl fun t w h => by rw [← h]; simp
@[simp] theorem State.sweepRecords_departureQueue (s : State) (p : Port) (i : LockIndex) : (s.sweepRecords p i).departureQueue = s.departureQueue := 
  State.sweepRecords_keeps (P := fun t => t.departureQueue = s.departureQueue) s p i rfl fun t w h => by rw [← h]; simp
@[simp] theorem State.sweepRecords_resetLow (s : State) (p : Port) (i : LockIndex) : (s.sweepRecords p i).resetLow = s.resetLow := 
  State.sweepRecords_keeps (P := fun t => t.resetLow = s.resetLow) s p i rfl fun t w h => by rw [← h]; simp
@[simp] theorem State.sweepRecords_prstLow (s : State) (p : Port) (i : LockIndex) : (s.sweepRecords p i).prstLow = s.prstLow := 
  State.sweepRecords_keeps (P := fun t => t.prstLow = s.prstLow) s p i rfl fun t w h => by rw [← h]; simp
@[simp] theorem State.sweepRecords_pending (s : State) (p : Port) (i : LockIndex) : (s.sweepRecords p i).pending = s.pending := 
  State.sweepRecords_keeps (P := fun t => t.pending = s.pending) s p i rfl fun t w h => by rw [← h]; simp
@[simp] theorem State.sweepRecords_unit (s : State) (p : Port) (i : LockIndex) (k : Port) : (s.sweepRecords p i).unit k = s.unit k := 
  State.sweepRecords_keeps (P := fun t => t.unit k = s.unit k) s p i rfl fun t w h => by rw [← h]; simp
@[simp] theorem State.sweepRecords_barrier (s : State) (p : Port) (i : LockIndex) (k : BarrierIndex) : (s.sweepRecords p i).barrier k = s.barrier k := 
  State.sweepRecords_keeps (P := fun t => t.barrier k = s.barrier k) s p i rfl fun t w h => by rw [← h]; simp
@[simp] theorem State.sweepRecords_session (s : State) (p : Port) (i : LockIndex) (k : Port) : (s.sweepRecords p i).session k = s.session k := 
  State.sweepRecords_keeps (P := fun t => t.session k = s.session k) s p i rfl fun t w h => by rw [← h]; simp
@[simp] theorem State.sweepRecords_attached (s : State) (p : Port) (i : LockIndex) (k : Port) : (s.sweepRecords p i).attached k = s.attached k := 
  State.sweepRecords_keeps (P := fun t => t.attached k = s.attached k) s p i rfl fun t w h => by rw [← h]; simp

/-! ### The lock visit (R136, R137) -/

@[simp] theorem State.visitLock_interfaces (s : State) (p : Port) (i : LockIndex) : (s.visitLock p i).interfaces = s.interfaces := by
  unfold State.visitLock; dsimp only; split <;> split <;> simp
@[simp] theorem State.visitLock_units (s : State) (p : Port) (i : LockIndex) : (s.visitLock p i).units = s.units := by
  unfold State.visitLock; dsimp only; split <;> split <;> simp
@[simp] theorem State.visitLock_freeLocks (s : State) (p : Port) (i : LockIndex) : (s.visitLock p i).freeLocks = s.freeLocks := by
  unfold State.visitLock; dsimp only; split <;> split <;> simp
@[simp] theorem State.visitLock_tick (s : State) (p : Port) (i : LockIndex) : (s.visitLock p i).tick = s.tick := by
  unfold State.visitLock; dsimp only; split <;> split <;> simp
@[simp] theorem State.visitLock_prescale (s : State) (p : Port) (i : LockIndex) : (s.visitLock p i).prescale = s.prescale := by
  unfold State.visitLock; dsimp only; split <;> split <;> simp
@[simp] theorem State.visitLock_tickLength (s : State) (p : Port) (i : LockIndex) : (s.visitLock p i).tickLength = s.tickLength := by
  unfold State.visitLock; dsimp only; split <;> split <;> simp
@[simp] theorem State.visitLock_cycleCount (s : State) (p : Port) (i : LockIndex) : (s.visitLock p i).cycleCount = s.cycleCount := by
  unfold State.visitLock; dsimp only; split <;> split <;> simp
@[simp] theorem State.visitLock_barriers (s : State) (p : Port) (i : LockIndex) : (s.visitLock p i).barriers = s.barriers := by
  unfold State.visitLock; dsimp only; split <;> split <;> simp
@[simp] theorem State.visitLock_sessions (s : State) (p : Port) (i : LockIndex) : (s.visitLock p i).sessions = s.sessions := by
  unfold State.visitLock; dsimp only; split <;> split <;> simp
@[simp] theorem State.visitLock_supervisor (s : State) (p : Port) (i : LockIndex) : (s.visitLock p i).supervisor = s.supervisor := by
  unfold State.visitLock; dsimp only; split <;> split <;> simp
@[simp] theorem State.visitLock_engine (s : State) (p : Port) (i : LockIndex) : (s.visitLock p i).engine = s.engine := by
  unfold State.visitLock; dsimp only; split <;> split <;> simp
@[simp] theorem State.visitLock_departureQueue (s : State) (p : Port) (i : LockIndex) : (s.visitLock p i).departureQueue = s.departureQueue := by
  unfold State.visitLock; dsimp only; split <;> split <;> simp
@[simp] theorem State.visitLock_resetLow (s : State) (p : Port) (i : LockIndex) : (s.visitLock p i).resetLow = s.resetLow := by
  unfold State.visitLock; dsimp only; split <;> split <;> simp
@[simp] theorem State.visitLock_prstLow (s : State) (p : Port) (i : LockIndex) : (s.visitLock p i).prstLow = s.prstLow := by
  unfold State.visitLock; dsimp only; split <;> split <;> simp
@[simp] theorem State.visitLock_pending (s : State) (p : Port) (i : LockIndex) : (s.visitLock p i).pending = s.pending := by
  unfold State.visitLock; dsimp only; split <;> split <;> simp
@[simp] theorem State.visitLock_unit (s : State) (p : Port) (i : LockIndex) (k : Port) : (s.visitLock p i).unit k = s.unit k := by
  unfold State.visitLock; dsimp only; split <;> split <;> simp
@[simp] theorem State.visitLock_barrier (s : State) (p : Port) (i : LockIndex) (k : BarrierIndex) : (s.visitLock p i).barrier k = s.barrier k := by
  unfold State.visitLock; dsimp only; split <;> split <;> simp
@[simp] theorem State.visitLock_session (s : State) (p : Port) (i : LockIndex) (k : Port) : (s.visitLock p i).session k = s.session k := by
  unfold State.visitLock; dsimp only; split <;> split <;> simp
@[simp] theorem State.visitLock_attached (s : State) (p : Port) (i : LockIndex) (k : Port) : (s.visitLock p i).attached k = s.attached k := by
  unfold State.visitLock; dsimp only; split <;> split <;> simp

/-! ### The expiries (R62, R66) -/

@[simp] theorem State.expireWait_interfaces (s : State) (i : LockIndex) (who : Requester) : (s.expireWait i who).interfaces = s.interfaces := by
  unfold State.expireWait; split
  · rfl
  · dsimp only; split <;> simp
@[simp] theorem State.expireWait_units (s : State) (i : LockIndex) (who : Requester) : (s.expireWait i who).units = s.units := by
  unfold State.expireWait; split
  · rfl
  · dsimp only; split <;> simp
@[simp] theorem State.expireWait_freeLocks (s : State) (i : LockIndex) (who : Requester) : (s.expireWait i who).freeLocks = s.freeLocks := by
  unfold State.expireWait; split
  · rfl
  · dsimp only; split <;> simp
@[simp] theorem State.expireWait_tick (s : State) (i : LockIndex) (who : Requester) : (s.expireWait i who).tick = s.tick := by
  unfold State.expireWait; split
  · rfl
  · dsimp only; split <;> simp
@[simp] theorem State.expireWait_prescale (s : State) (i : LockIndex) (who : Requester) : (s.expireWait i who).prescale = s.prescale := by
  unfold State.expireWait; split
  · rfl
  · dsimp only; split <;> simp
@[simp] theorem State.expireWait_tickLength (s : State) (i : LockIndex) (who : Requester) : (s.expireWait i who).tickLength = s.tickLength := by
  unfold State.expireWait; split
  · rfl
  · dsimp only; split <;> simp
@[simp] theorem State.expireWait_cycleCount (s : State) (i : LockIndex) (who : Requester) : (s.expireWait i who).cycleCount = s.cycleCount := by
  unfold State.expireWait; split
  · rfl
  · dsimp only; split <;> simp
@[simp] theorem State.expireWait_barriers (s : State) (i : LockIndex) (who : Requester) : (s.expireWait i who).barriers = s.barriers := by
  unfold State.expireWait; split
  · rfl
  · dsimp only; split <;> simp
@[simp] theorem State.expireWait_sessions (s : State) (i : LockIndex) (who : Requester) : (s.expireWait i who).sessions = s.sessions := by
  unfold State.expireWait; split
  · rfl
  · dsimp only; split <;> simp
@[simp] theorem State.expireWait_supervisor (s : State) (i : LockIndex) (who : Requester) : (s.expireWait i who).supervisor = s.supervisor := by
  unfold State.expireWait; split
  · rfl
  · dsimp only; split <;> simp
@[simp] theorem State.expireWait_engine (s : State) (i : LockIndex) (who : Requester) : (s.expireWait i who).engine = s.engine := by
  unfold State.expireWait; split
  · rfl
  · dsimp only; split <;> simp
@[simp] theorem State.expireWait_departureQueue (s : State) (i : LockIndex) (who : Requester) : (s.expireWait i who).departureQueue = s.departureQueue := by
  unfold State.expireWait; split
  · rfl
  · dsimp only; split <;> simp
@[simp] theorem State.expireWait_resetLow (s : State) (i : LockIndex) (who : Requester) : (s.expireWait i who).resetLow = s.resetLow := by
  unfold State.expireWait; split
  · rfl
  · dsimp only; split <;> simp
@[simp] theorem State.expireWait_prstLow (s : State) (i : LockIndex) (who : Requester) : (s.expireWait i who).prstLow = s.prstLow := by
  unfold State.expireWait; split
  · rfl
  · dsimp only; split <;> simp
@[simp] theorem State.expireWait_pending (s : State) (i : LockIndex) (who : Requester) : (s.expireWait i who).pending = s.pending := by
  unfold State.expireWait; split
  · rfl
  · dsimp only; split <;> simp
@[simp] theorem State.expireWait_unit (s : State) (i : LockIndex) (who : Requester) (k : Port) : (s.expireWait i who).unit k = s.unit k := by
  unfold State.expireWait; split
  · rfl
  · dsimp only; split <;> simp
@[simp] theorem State.expireWait_barrier (s : State) (i : LockIndex) (who : Requester) (k : BarrierIndex) : (s.expireWait i who).barrier k = s.barrier k := by
  unfold State.expireWait; split
  · rfl
  · dsimp only; split <;> simp
@[simp] theorem State.expireWait_session (s : State) (i : LockIndex) (who : Requester) (k : Port) : (s.expireWait i who).session k = s.session k := by
  unfold State.expireWait; split
  · rfl
  · dsimp only; split <;> simp
@[simp] theorem State.expireWait_attached (s : State) (i : LockIndex) (who : Requester) (k : Port) : (s.expireWait i who).attached k = s.attached k := by
  unfold State.expireWait; split
  · rfl
  · dsimp only; split <;> simp
@[simp] theorem State.expireLease_interfaces (s : State) (i : LockIndex) : (s.expireLease i).interfaces = s.interfaces := by
  unfold State.expireLease; dsimp only; split <;> simp
@[simp] theorem State.expireLease_units (s : State) (i : LockIndex) : (s.expireLease i).units = s.units := by
  unfold State.expireLease; dsimp only; split <;> simp
@[simp] theorem State.expireLease_freeLocks (s : State) (i : LockIndex) : (s.expireLease i).freeLocks = s.freeLocks := by
  unfold State.expireLease; dsimp only; split <;> simp
@[simp] theorem State.expireLease_tick (s : State) (i : LockIndex) : (s.expireLease i).tick = s.tick := by
  unfold State.expireLease; dsimp only; split <;> simp
@[simp] theorem State.expireLease_prescale (s : State) (i : LockIndex) : (s.expireLease i).prescale = s.prescale := by
  unfold State.expireLease; dsimp only; split <;> simp
@[simp] theorem State.expireLease_tickLength (s : State) (i : LockIndex) : (s.expireLease i).tickLength = s.tickLength := by
  unfold State.expireLease; dsimp only; split <;> simp
@[simp] theorem State.expireLease_cycleCount (s : State) (i : LockIndex) : (s.expireLease i).cycleCount = s.cycleCount := by
  unfold State.expireLease; dsimp only; split <;> simp
@[simp] theorem State.expireLease_barriers (s : State) (i : LockIndex) : (s.expireLease i).barriers = s.barriers := by
  unfold State.expireLease; dsimp only; split <;> simp
@[simp] theorem State.expireLease_sessions (s : State) (i : LockIndex) : (s.expireLease i).sessions = s.sessions := by
  unfold State.expireLease; dsimp only; split <;> simp
@[simp] theorem State.expireLease_supervisor (s : State) (i : LockIndex) : (s.expireLease i).supervisor = s.supervisor := by
  unfold State.expireLease; dsimp only; split <;> simp
@[simp] theorem State.expireLease_engine (s : State) (i : LockIndex) : (s.expireLease i).engine = s.engine := by
  unfold State.expireLease; dsimp only; split <;> simp
@[simp] theorem State.expireLease_departureQueue (s : State) (i : LockIndex) : (s.expireLease i).departureQueue = s.departureQueue := by
  unfold State.expireLease; dsimp only; split <;> simp
@[simp] theorem State.expireLease_resetLow (s : State) (i : LockIndex) : (s.expireLease i).resetLow = s.resetLow := by
  unfold State.expireLease; dsimp only; split <;> simp
@[simp] theorem State.expireLease_prstLow (s : State) (i : LockIndex) : (s.expireLease i).prstLow = s.prstLow := by
  unfold State.expireLease; dsimp only; split <;> simp
@[simp] theorem State.expireLease_pending (s : State) (i : LockIndex) : (s.expireLease i).pending = s.pending := by
  unfold State.expireLease; dsimp only; split <;> simp
@[simp] theorem State.expireLease_unit (s : State) (i : LockIndex) (k : Port) : (s.expireLease i).unit k = s.unit k := by
  unfold State.expireLease; dsimp only; split <;> simp
@[simp] theorem State.expireLease_barrier (s : State) (i : LockIndex) (k : BarrierIndex) : (s.expireLease i).barrier k = s.barrier k := by
  unfold State.expireLease; dsimp only; split <;> simp
@[simp] theorem State.expireLease_session (s : State) (i : LockIndex) (k : Port) : (s.expireLease i).session k = s.session k := by
  unfold State.expireLease; dsimp only; split <;> simp
@[simp] theorem State.expireLease_attached (s : State) (i : LockIndex) (k : Port) : (s.expireLease i).attached k = s.attached k := by
  unfold State.expireLease; dsimp only; split <;> simp

/-! ### The barrier visit (R108) -/

@[simp] theorem State.visitBarrier_interfaces (s : State) (p : Port) (b : BarrierIndex) : (s.visitBarrier p b).interfaces = s.interfaces := by
  unfold State.visitBarrier; dsimp only; split
  · rfl
  · split <;> simp
@[simp] theorem State.visitBarrier_units (s : State) (p : Port) (b : BarrierIndex) : (s.visitBarrier p b).units = s.units := by
  unfold State.visitBarrier; dsimp only; split
  · rfl
  · split <;> simp
@[simp] theorem State.visitBarrier_locks (s : State) (p : Port) (b : BarrierIndex) : (s.visitBarrier p b).locks = s.locks := by
  unfold State.visitBarrier; dsimp only; split
  · rfl
  · split <;> simp
@[simp] theorem State.visitBarrier_freeLocks (s : State) (p : Port) (b : BarrierIndex) : (s.visitBarrier p b).freeLocks = s.freeLocks := by
  unfold State.visitBarrier; dsimp only; split
  · rfl
  · split <;> simp
@[simp] theorem State.visitBarrier_freeRecords (s : State) (p : Port) (b : BarrierIndex) : (s.visitBarrier p b).freeRecords = s.freeRecords := by
  unfold State.visitBarrier; dsimp only; split
  · rfl
  · split <;> simp
@[simp] theorem State.visitBarrier_poolPorts (s : State) (p : Port) (b : BarrierIndex) : (s.visitBarrier p b).poolPorts = s.poolPorts := by
  unfold State.visitBarrier; dsimp only; split
  · rfl
  · split <;> simp
@[simp] theorem State.visitBarrier_deadlines (s : State) (p : Port) (b : BarrierIndex) : (s.visitBarrier p b).deadlines = s.deadlines := by
  unfold State.visitBarrier; dsimp only; split
  · rfl
  · split <;> simp
@[simp] theorem State.visitBarrier_tick (s : State) (p : Port) (b : BarrierIndex) : (s.visitBarrier p b).tick = s.tick := by
  unfold State.visitBarrier; dsimp only; split
  · rfl
  · split <;> simp
@[simp] theorem State.visitBarrier_prescale (s : State) (p : Port) (b : BarrierIndex) : (s.visitBarrier p b).prescale = s.prescale := by
  unfold State.visitBarrier; dsimp only; split
  · rfl
  · split <;> simp
@[simp] theorem State.visitBarrier_tickLength (s : State) (p : Port) (b : BarrierIndex) : (s.visitBarrier p b).tickLength = s.tickLength := by
  unfold State.visitBarrier; dsimp only; split
  · rfl
  · split <;> simp
@[simp] theorem State.visitBarrier_cycleCount (s : State) (p : Port) (b : BarrierIndex) : (s.visitBarrier p b).cycleCount = s.cycleCount := by
  unfold State.visitBarrier; dsimp only; split
  · rfl
  · split <;> simp
@[simp] theorem State.visitBarrier_sessions (s : State) (p : Port) (b : BarrierIndex) : (s.visitBarrier p b).sessions = s.sessions := by
  unfold State.visitBarrier; dsimp only; split
  · rfl
  · split <;> simp
@[simp] theorem State.visitBarrier_supervisor (s : State) (p : Port) (b : BarrierIndex) : (s.visitBarrier p b).supervisor = s.supervisor := by
  unfold State.visitBarrier; dsimp only; split
  · rfl
  · split <;> simp
@[simp] theorem State.visitBarrier_engine (s : State) (p : Port) (b : BarrierIndex) : (s.visitBarrier p b).engine = s.engine := by
  unfold State.visitBarrier; dsimp only; split
  · rfl
  · split <;> simp
@[simp] theorem State.visitBarrier_departureQueue (s : State) (p : Port) (b : BarrierIndex) : (s.visitBarrier p b).departureQueue = s.departureQueue := by
  unfold State.visitBarrier; dsimp only; split
  · rfl
  · split <;> simp
@[simp] theorem State.visitBarrier_resetLow (s : State) (p : Port) (b : BarrierIndex) : (s.visitBarrier p b).resetLow = s.resetLow := by
  unfold State.visitBarrier; dsimp only; split
  · rfl
  · split <;> simp
@[simp] theorem State.visitBarrier_prstLow (s : State) (p : Port) (b : BarrierIndex) : (s.visitBarrier p b).prstLow = s.prstLow := by
  unfold State.visitBarrier; dsimp only; split
  · rfl
  · split <;> simp
@[simp] theorem State.visitBarrier_pending (s : State) (p : Port) (b : BarrierIndex) : (s.visitBarrier p b).pending = s.pending := by
  unfold State.visitBarrier; dsimp only; split
  · rfl
  · split <;> simp
@[simp] theorem State.visitBarrier_lock (s : State) (p : Port) (b : BarrierIndex) (k : LockIndex) : (s.visitBarrier p b).lock k = s.lock k := by
  unfold State.visitBarrier; dsimp only; split
  · rfl
  · split <;> simp
@[simp] theorem State.visitBarrier_unit (s : State) (p : Port) (b : BarrierIndex) (k : Port) : (s.visitBarrier p b).unit k = s.unit k := by
  unfold State.visitBarrier; dsimp only; split
  · rfl
  · split <;> simp
@[simp] theorem State.visitBarrier_session (s : State) (p : Port) (b : BarrierIndex) (k : Port) : (s.visitBarrier p b).session k = s.session k := by
  unfold State.visitBarrier; dsimp only; split
  · rfl
  · split <;> simp
@[simp] theorem State.visitBarrier_attached (s : State) (p : Port) (b : BarrierIndex) (k : Port) : (s.visitBarrier p b).attached k = s.attached k := by
  unfold State.visitBarrier; dsimp only; split
  · rfl
  · split <;> simp

/-- R137: after the removals the lock entry has nothing of the port but, at most, its queue. -/
theorem LockEntry.sweptOf_clear (e : LockEntry) (p : Port) (h : ∀ w ∈ e.queue, w.requester.port ≠ p) :
    (e.sweptOf p).clearOf p := by
  refine ⟨by simpa [LockEntry.sweptOf] using h, ?_, ?_, ?_⟩
  · intro r hr
    by_cases hx : (e.exclusiveHolder.any fun r => r.port == p) = true
    · simp [LockEntry.sweptOf, hx] at hr
    · simp only [LockEntry.sweptOf, hx] at hr
      intro hp
      exact hx (by simp [Option.any_eq_true]; exact ⟨r, by simpa using hr, hp⟩)
  · intro r hr
    have : r ∈ e.sharedHolders ∧ ¬r.port = p := by simpa [LockEntry.sweptOf] using hr
    exact this.2
  · by_cases ha : e.allocator = some p <;> simp [LockEntry.sweptOf, ha]

end Sys2Proof.Machine
end

