-- ==== Sys2Proof/Tests/Slice0.lean ====
section
/-! SUPPORT. Tests of the model: the refusals of WellFormed, single steps with the results the spec's rules and worked
sequences give, and for each statement with hypotheses a state and operands that meet them. -/

namespace Sys2Proof.Tests

open Sys2Proof.Machine

/-! ### Small states -/

/-- RESETn has been released with P1 the supervisor, and every port is ATTACHED in its first session. -/
def live : State :=
  { State.reset with
    resetLow := false
    supervisor := 1
    sessions := Vector.replicate 4 ⟨.attached, 1, .none, 0, 0⟩ }

/-- `s` with port `p`'s request for `c` handed to its owner. -/
def asks (s : State) (p : Port) (c : Command) (a : Args) : State :=
  s.setUnit p { s.unit p with inFlight := some ⟨c, a, .handed false⟩ }

/-- A pooled or fixed lock with no holder, no waiter and no lease. -/
def freeEntry (k : Kind) : LockEntry := ⟨.allocated, k, 0, none, 0, none, [], .none, []⟩

/-- The next state. The states used here have one. -/
def after (c : Instr) (s : State) : State :=
  match exec c s with
  | .next t => t
  | _ => s

/-- The answer on its way back to port `p`. -/
def answerOf (s : State) (p : Port) : Option Answer :=
  match (s.unit p).inFlight with
  | some ⟨_, _, .answered a⟩ => some a
  | _ => none

/-- The code of the answer to port `p`'s request for `c` with the arguments `a` in state `s`. -/
def codeOf (s : State) (p : Port) (c : Command) (a : Args) : Option ResultCode :=
  (answerOf (after (c.request p) (asks s p c a)) p).map (·.code)

/-- A word of a small number. -/
def w (n : Nat) : Word := BitVec.ofNat 16 n

/-! ### WellFormed: one ill-formed term for each check -/

/-- R165: CMD at 06h is no plain word. -/
theorem test_wellFormed_refuses_cmd_offset : Instr.wellFormed (.registerWrite 0 0x06 1) = false := by decide

/-- R125: a write to PCTL with bit 0 clear is no soft reset. -/
theorem test_wellFormed_refuses_zero_soft_reset : Instr.wellFormed (.softReset 0 0xFFFE) = false := by decide

/-- R165: ARG0 at 02h is a plain word, and so is the read-only IDENT at 00h. -/
theorem test_wellFormed_admits_plain_words :
    Instr.wellFormed (.registerWrite 0 0x02 1) = true ∧ Instr.wellFormed (.registerWrite 0 0x00 1) = true := by decide

/-! ### Locks (chapter 1) -/

/-- R8, R13: the first ALLOC after device reset takes lock 8; its handle word is 8 * 1024. -/
theorem test_alloc_takes_lock_8 :
    answerOf (after (.alloc 0) (asks live 0 .alloc ⟨2, 1000, 0, 0⟩)) 0 = some ⟨.ok, 0x2000, 0, 0⟩ := by decide

/-- R13: with the free-lock list empty ALLOC completes NO_FREE_LOCK. -/
theorem test_alloc_no_free_lock : codeOf { live with freeLocks := [] } 0 .alloc ⟨2, 0, 0, 0⟩ = some .noFreeLock := by decide

/-- Lock 8 allocated by P0. -/
def lock8 : State :=
  { live.setLock 8 { freeEntry .shared with allocator := some 0 } with freeLocks := State.reset.freeLocks.tail }

/-- R14 at the boundary: lock 7 is fixed; lock 8 may be retired by its allocator, and not by P2. -/
theorem test_retire_boundary :
    codeOf lock8 0 .retire ⟨0x1C00, 0, 0, 0⟩ = some .fixedLock ∧ codeOf lock8 0 .retire ⟨0x2000, 0, 0, 0⟩ = some .ok ∧
      codeOf lock8 2 .retire ⟨0x2000, 0, 0, 0⟩ = some .notOwner := by decide

/-- R15: the lock retired goes to the tail of the free-lock list with its generation moved on. -/
theorem test_retire_appends :
    (after (.retire 0) (asks lock8 0 .retire ⟨0x2000, 0, 0, 0⟩)).freeLocks.getLast? = some 8 ∧
      ((after (.retire 0) (asks lock8 0 .retire ⟨0x2000, 0, 0, 0⟩)).lock 8).generation = 1 := by decide

/-- R17: DEFINE_FIXED of lock 7, SHARED with lease 500, answers its handle word 7 * 1024. -/
theorem test_defineFixed_lock_7 :
    answerOf (after (.defineFixed 1) (asks live 1 .defineFixed ⟨0x0207, 500, 0, 0⟩)) 1 = some ⟨.ok, 0x1C00, 0, 0⟩ := by decide

/-- R19, R172: a QUERY of lock 8 held exclusively by P3.0: allocator 0, holder form 1, agent 0, port 3. -/
theorem test_query_exclusive_holder :
    answerOf (after (.query 2)
      (asks (lock8.setLock 8 { lock8.lock 8 with exclusiveHolder := some ⟨3, 0⟩ }) 2 .query ⟨0x2000, 0, 0, 0⟩)) 2
      = some ⟨.ok, 0x6000, 0, 0x3100⟩ := by decide

/-! ### Holds and waits (chapters 2 and 3; the worked sequence 10.1) -/

/-- 10.1 before event 1: lock 26, SHARED kind, lease period 1000, allocated by P0. -/
def seq1 : State :=
  { live.setLock 26 { freeEntry .shared with allocator := some 0, leasePeriod := 1000 } with
    freeLocks := live.freeLocks.erase 26 }

/-- 10.1 after event 4: P1.0 and P3.1 hold the lock shared; P0.2 waits exclusively with limit 5000 since tick 120, and P2.5
shared with no limit. -/
def seq1e4 : State :=
  let s := seq1.setLock 26 { seq1.lock 26 with
    sharedHolders := [⟨1, 0⟩, ⟨3, 1⟩]
    queue := [⟨⟨0, 2⟩, 26, .exclusive, 0, 2⟩, ⟨⟨2, 5⟩, 26, .shared, 0, 1⟩] }
  let s := (s.setPool 0 ⟨1, 1, 6⟩).setPool 2 ⟨1, 1, 6⟩
  let s := (s.setInbox 0 ⟨[], 2⟩).setInbox 2 ⟨[], 1⟩
  { s with freeRecords := 22, tick := 160, deadlines := [⟨.wait 26 ⟨0, 2⟩, 5120, false⟩] }

/-- 10.1 event 1: a shared ACQUIRE of the free lock is granted at once, mode SHARED, mark NONE, with no reservation. -/
theorem test_acquire_granted_at_once :
    answerOf (after (.acquire 1) (asks seq1 1 .acquire ⟨0x6800, 0x20, 65535, 0⟩)) 1 = some ⟨.granted, 0x6800, 2, 0⟩ ∧
      ((after (.acquire 1) (asks seq1 1 .acquire ⟨0x6800, 0x20, 65535, 0⟩)).inbox 1).reserved = 0 := by decide

/-- 10.1 event 4, by P1.4 at tick 160: a shared request behind the writer is queued with ticket 0 and one reservation. -/
theorem test_acquire_queued :
    answerOf (after (.acquire 1) (asks seq1e4 1 .acquire ⟨0x6800, 0x24, 65535, 0⟩)) 1 = some ⟨.queued, 0, 0, 0⟩ ∧
      ((after (.acquire 1) (asks seq1e4 1 .acquire ⟨0x6800, 0x24, 65535, 0⟩)).inbox 1).reserved = 1 := by decide

/-- 10.1 event 5: after P1.0's RELEASE the exclusive head still waits behind P3.1. -/
theorem test_release_keeps_blocked_head :
    let t := after (.release 1) (asks seq1e4 1 .release ⟨0x6800, 0, 0, 0⟩)
    (t.lock 26).sharedHolders = [⟨3, 1⟩] ∧ (t.lock 26).queue.length = 2 := by decide

/-- 10.1 event 6: CANCEL(0) of P0 answers (26, 0), agent 2, EXCLUSIVE; the wait deadline goes, and P2.5 is granted. -/
theorem test_cancel_grants_next :
    let t := after (.cancel 0) (asks seq1e4 0 .cancel ⟨0, 0, 0, 0⟩)
    answerOf t 0 = some ⟨.ok, 0x6800, 0x12, 0⟩ ∧ t.freeRecords = 24 ∧ t.deadlines = [] ∧ (t.inbox 0).reserved = 0 ∧
      t.inbox 2 = ⟨[⟨5, .granted ⟨26, 0⟩ .shared 0 .none⟩], 0⟩ := by decide

/-- 10.1 before event 11: P0.2 holds the lock exclusively under a lease to 1190, and P1.4 waits shared. -/
def seq1e10 : State :=
  let s := seq1.setLock 26 { seq1.lock 26 with
    exclusiveHolder := some ⟨0, 2⟩, queue := [⟨⟨1, 4⟩, 26, .shared, 0, 1⟩] }
  let s := (s.setPool 1 ⟨1, 1, 6⟩).setInbox 0 ⟨[], 1⟩
  { s.setInbox 1 ⟨[], 1⟩ with freeRecords := 23, tick := 200, deadlines := [⟨.lease 26, 1190, false⟩] }

/-- 10.1 event 11: the DOWNGRADE ends the lease and lets P1.4 in. -/
theorem test_downgrade_admits_reader :
    let t := after (.downgrade 0) (asks seq1e10 0 .downgrade ⟨0x6800, 2, 0, 0⟩)
    (t.lock 26).sharedHolders = [⟨0, 2⟩, ⟨1, 4⟩] ∧ t.deadlines = [] ∧ (t.inbox 0).reserved = 0 ∧
      (t.inbox 1).entries = [⟨4, .granted ⟨26, 0⟩ .shared 0 .none⟩] := by decide

/-- R70: a RENEW at tick 200 of a lease of 1000 moves the deadline to 1200 and reports it. -/
theorem test_renew_moves_lease :
    let t := after (.renew 0) (asks seq1e10 0 .renew ⟨0x6800, 2, 0, 0⟩)
    answerOf t 0 = some ⟨.ok, 0x6800, 1200, 0⟩ ∧ t.deadlines = [⟨.lease 26, 1200, false⟩] := by decide

/-- 10.2 at tick 1200: lock 33, EXCLUSIVE kind, generation 5, lease 200; P3.0 holds it and P1.7 waits with ticket 4. -/
def seq2 : State :=
  let s := live.setLock 33 { freeEntry .exclusive with
    generation := 5, leasePeriod := 200, exclusiveHolder := some ⟨3, 0⟩
    queue := [⟨⟨1, 7⟩, 33, .exclusive, 4, 2⟩] }
  let s := ((s.setPool 1 ⟨1, 5, 6⟩).setInbox 1 ⟨[], 2⟩).setInbox 3 ⟨[], 1⟩
  { s with
    freeLocks := live.freeLocks.erase 33, freeRecords := 23, tick := 1200, deadlines := [⟨.lease 33, 1200, true⟩] }

/-- 10.2 step A1: the expiry revokes P3.0's hold, and P1.7 is granted with the mark REVOKED under a lease to 1400. -/
theorem test_leaseExpiry_revokes :
    let t := after .leaseExpiry seq2
    (t.lock 33).exclusiveHolder = some ⟨1, 7⟩ ∧ t.deadlines = [⟨.lease 33, 1400, false⟩] ∧
      t.inbox 1 = ⟨[⟨7, .granted ⟨33, 5⟩ .exclusive 4 .revoked⟩], 1⟩ ∧
      t.inbox 3 = ⟨[⟨0, .leaseRevoked ⟨33, 5⟩⟩], 0⟩ ∧ (t.lock 33).mark = .none := by decide

/-- 10.2 step B1: the release taken first removes the due deadline, and the grant carries the mark NONE. -/
theorem test_release_before_due_lease :
    let t := after (.release 3) (asks seq2 3 .release ⟨0x8405, 0, 0, 0⟩)
    t.deadlines = [⟨.lease 33, 1400, false⟩] ∧ t.inbox 1 = ⟨[⟨7, .granted ⟨33, 5⟩ .exclusive 4 .none⟩], 1⟩ ∧
      t.inbox 3 = ⟨[], 0⟩ := by decide

/-- R62, R63: at tick 5120 the wait of P0.2 expires; its port receives WAIT_EXPIRED from one of its two reservations, the
other is dropped, and the reader behind it is granted. -/
theorem test_waitExpiry_frees_record :
    let t := after .waitExpiry { seq1e4 with deadlines := [⟨.wait 26 ⟨0, 2⟩, 5120, true⟩] }
    t.inbox 0 = ⟨[⟨2, .waitExpired ⟨26, 0⟩ .exclusive 0⟩], 0⟩ ∧ t.freeRecords = 24 ∧ (t.lock 26).queue = [] := by decide

/-- R53 to R55: the counter wraps, and the deadline it reaches falls due. -/
theorem test_tick_wraps :
    let t := after .tick { live with tick := 0xFFFFFFFF, deadlines := [⟨.keepalive 2, 0, false⟩, ⟨.keepalive 3, 1, false⟩] }
    t.tick = 0 ∧ t.deadlines = [⟨.keepalive 2, 0, true⟩, ⟨.keepalive 3, 1, false⟩] := by decide

/-! ### Notes and barriers (chapters 4 and 5; the worked sequence 10.4) -/

/-- R92: a note to P2, target agent 3, sender agent 1, tag 5, data 00070006h. -/
theorem test_post_appends_note :
    ((after (.post 0) (asks live 0 .post ⟨0x0132, 5, 6, 7⟩)).inbox 2).entries = [⟨3, .note 0 1 5 0x00070006⟩] := by decide

/-- R91 at the boundary: a target with 15 entries and one reservation has no room. -/
theorem test_post_target_full :
    codeOf (live.setInbox 2 ⟨List.replicate 15 ⟨0, .leaseRevoked ⟨0, 0⟩⟩, 1⟩) 0 .post ⟨2, 0, 0, 0⟩ = some .targetFull ∧
      codeOf (live.setInbox 2 ⟨List.replicate 15 ⟨0, .leaseRevoked ⟨0, 0⟩⟩, 0⟩) 0 .post ⟨2, 0, 0, 0⟩ = some .ok := by
  decide

/-- 10.4 after event 2: barrier 6 GATHERING at phase 3. -/
def seq4 : State :=
  let s := live.setBarrier 6 ⟨.gathering, 3, [⟨0, 1⟩, ⟨1, 1⟩, ⟨3, 0⟩], [⟨0, 1⟩, ⟨1, 1⟩]⟩
  (s.setInbox 0 ⟨[], 1⟩).setInbox 1 ⟨[], 1⟩

/-- 10.4 events 4 and 5: REARM answers WRONG_STATE, and BARRIER_QUERY GATHERING, 3, 3 members, 2 arrived. -/
theorem test_rearm_and_barrierQuery :
    codeOf seq4 1 .rearm ⟨0x16, 0, 0, 0⟩ = some .wrongState ∧
      answerOf (after (.barrierQuery 0) (asks seq4 0 .barrierQuery ⟨0x06, 0, 0, 0⟩)) 0 = some ⟨.ok, 0x103, 0x23, 0⟩ := by
  decide

/-- 10.4 event 14's rule: the third arrival opens the barrier, and the two who waited receive BARRIER_OPEN. -/
theorem test_arrive_opens :
    let t := after (.arrive 3) (asks seq4 3 .arrive ⟨0x06, 0, 0, 0⟩)
    answerOf t 3 = some ⟨.opened, 4, 0, 0⟩ ∧ t.barrier 6 = ⟨.idle, 4, [⟨0, 1⟩, ⟨1, 1⟩, ⟨3, 0⟩], []⟩ ∧
      t.inbox 0 = ⟨[⟨1, .barrierOpen 6 4⟩], 0⟩ ∧ t.inbox 3 = ⟨[], 0⟩ := by decide

/-- R99, R100: a LEAVE of the last who has not arrived opens the barrier: phase 4, opened bit 1. -/
theorem test_leave_opens :
    answerOf (after (.leave 3) (asks seq4 3 .leave ⟨0x06, 0, 0, 0⟩)) 3 = some ⟨.ok, 0x104, 0, 0⟩ := by decide

/-- R98: the ninth member is refused BARRIER_FULL, the eighth is not. -/
theorem test_join_boundary :
    codeOf (live.setBarrier 6 ⟨.idle, 3, (List.finRange 8).map fun g => ⟨0, g⟩, []⟩) 1 .join ⟨0x06, 0, 0, 0⟩
        = some .barrierFull ∧
      codeOf (live.setBarrier 6 ⟨.idle, 3, (List.finRange 7).map fun g => ⟨0, g.castSucc⟩, []⟩) 1 .join ⟨0x06, 0, 0, 0⟩
        = some .ok := by decide

/-- R103: after P1.1's WITHDRAW one arrival is left, and P1's reservation is dropped. -/
theorem test_withdraw_drops :
    let t := after (.withdraw 1) (asks seq4 1 .withdraw ⟨0x16, 0, 0, 0⟩)
    t.barrier 6 = ⟨.gathering, 3, [⟨0, 1⟩, ⟨1, 1⟩, ⟨3, 0⟩], [⟨0, 1⟩]⟩ ∧ (t.inbox 1).reserved = 0 := by decide

/-- R104, R105: BREAK by P3.0 ends the round with cause port 3. -/
theorem test_break_ends_round :
    let t := after (.breakBarrier 3) (asks seq4 3 .breakBarrier ⟨0x06, 0, 0, 0⟩)
    (t.barrier 6).state = .broken ∧ (t.barrier 6).phase = 4 ∧ t.inbox 1 = ⟨[⟨1, .barrierBroken 6 4 3⟩], 0⟩ := by decide

/-- 10.4 event 6: the sweep's visit removes P3.0 and breaks the round with cause port 3. -/
theorem test_barrierVisit_breaks :
    let t := after .barrierVisit { seq4 with engine := .busy 3 (.barriers 6) }
    t.barrier 6 = ⟨.broken, 4, [⟨0, 1⟩, ⟨1, 1⟩], []⟩ ∧ t.inbox 0 = ⟨[⟨1, .barrierBroken 6 4 3⟩], 0⟩ ∧
      t.engine = .busy 3 (.barriers 7) := by decide

/-! ### Sessions and the sweep (chapters 6 and 7; the worked sequence 10.3) -/

/-- 10.3 after event 2: P2 SWEEPING, the sweep at lock 3, which P2.1 holds exclusively; P0.0 waits with ticket 2. -/
def seq3 : State :=
  let s := live.setLock 3 { freeEntry .exclusive with
    exclusiveHolder := some ⟨2, 1⟩, queue := [⟨⟨0, 0⟩, 3, .exclusive, 2, 1⟩] }
  let s := (s.setPool 0 ⟨1, 3, 6⟩).setInbox 0 ⟨[], 1⟩
  let s := s.setSession 2 ⟨.sweeping, 1, .keepalive, 0, 500⟩
  { s with freeRecords := 23, engine := .busy 2 (.locks 3) }

/-- 10.3 event 3: the visit gives lock 3 to P0.0 with the mark ABANDONED, and the sweep moves to lock 4. -/
theorem test_lockVisit_abandons :
    let t := after .lockVisit seq3
    (t.lock 3).exclusiveHolder = some ⟨0, 0⟩ ∧ t.inbox 0 = ⟨[⟨0, .granted ⟨3, 0⟩ .exclusive 2 .abandoned⟩], 0⟩ ∧
      t.freeRecords = 24 ∧ t.engine = .busy 2 (.locks 4) := by decide

/-- 10.3 event 8: the final step makes P2 DETACHED, adds it to the summaries of the others, and the engine goes IDLE. -/
theorem test_finalStep_detaches :
    let t := after .finalStep { seq3 with engine := .busy 2 .final }
    (t.session 2).state = .detached ∧ (t.session 0).summary = 4 ∧ (t.session 2).summary = 0 ∧ t.engine = .idle := by
  decide

/-- 10.3 event 1: the expiry departs P2 with cause KEEPALIVE, its inbox is flushed and its reservation stays. -/
theorem test_keepaliveExpiry_departs :
    let s := { live.setInbox 2 ⟨[⟨0, .leaseRevoked ⟨0, 0⟩⟩], 1⟩ with deadlines := [⟨.keepalive 2, 9500, true⟩] }
    let t := after .keepaliveExpiry s
    t.session 2 = ⟨.sweeping, 1, .keepalive, 0, 0⟩ ∧ t.inbox 2 = ⟨[], 1⟩ ∧ t.engine = .busy 2 (.locks 0) ∧
      t.deadlines = [] := by decide

/-- R114: the session after generation 255 is generation 1. -/
theorem test_attach_generation_wraps :
    answerOf (after (.attach 2) (asks (live.setSession 2 ⟨.detached, 255, .detach, 0, 0⟩) 2 .attach ⟨0, 0, 0, 0⟩)) 2
      = some ⟨.ok, 1, 0, 0⟩ := by decide

/-- R117, R122: a DETACH while another sweep runs leaves the port PENDING_SWEEP at the tail of the queue. -/
theorem test_detach_queues :
    let t := after (.detach 0) (asks seq3 0 .detach ⟨0, 0, 0, 0⟩)
    (t.session 0).state = .pendingSweep ∧ t.departureQueue = [0] ∧ answerOf t 0 = some ⟨.ok, 1, 0, 0⟩ := by decide

/-- R119: the supervisor's FORCE_DETACH of its own port completes OK. -/
theorem test_forceDetach_own_port :
    let t := after (.forceDetach 1) (asks live 1 .forceDetach ⟨1, 0, 0, 0⟩)
    (t.session 1).state = .sweeping ∧ (t.session 1).lastCause = .forced ∧ answerOf t 1 = some ⟨.ok, 1, 0, 0⟩ := by decide

/-- R118: TOUCH answers the session generation. -/
theorem test_touch_answers : codeOf live 3 .touch ⟨0, 0, 0, 0⟩ = some .ok := by decide

/-! ### The command unit and the window (chapters 8 and 9) -/

/-- R149, R152: FORCE_DETACH (04h) from a port that is not the supervisor completes NOT_SUPERVISOR (14h) at once. -/
theorem test_cmdWrite_not_supervisor :
    let t := after (.cmdWrite 0 0x0004) live
    t.unit 0 = ⟨none, 0x04, 0x14, 0, 0, 0, true, false⟩ := by decide

/-- R149: QUERY (13h) goes to its owner and BUSY is set: CMD reads 8013h. -/
theorem test_cmdWrite_sets_busy : (after (.cmdWrite 0 0x0013) live).readWord 0 0x06 = 0x8013 := by decide

/-- R150: the write that meets BUSY sets the overrun flag: ISTAT reads 8. -/
theorem test_overrun_sets_flag :
    (after (.overrun 0 0x0013) (asks live 0 .query ⟨0, 0, 0, 0⟩)).readWord 0 0x14 = 8 := by decide

/-- R154, R172: TICKET NO_SUCH_TICKET is posted as 2Eh. -/
theorem test_completion_posts :
    let s := live.setUnit 0 { live.unit 0 with inFlight := some ⟨.cancel, ⟨0, 0, 0, 0⟩, .answered ⟨.noSuchTicket, 0, 0, 0⟩⟩ }
    (after (.completion 0) s).readWord 0 0x07 = 0x2E ∧ (after (.completion 0) s).readWord 0 0x14 = 4 := by decide

/-- R23: 24 is a cap and 25 is not. -/
theorem test_waiterCap_boundary :
    ((after (.waiterCapWrite 0 24) live).pool 0).cap = 24 ∧ ((after (.waiterCapWrite 0 25) live).pool 0).cap = 6 := by decide

/-- R54: the supervisor's write to PRESCALE acts, another port's does not. -/
theorem test_prescale_supervisor_only :
    (after (.prescaleWrite 1 7) live).prescale = 7 ∧ (after (.prescaleWrite 0 7) live).prescale = 100 := by decide

/-- R72, R120: an interval written by an ATTACHED port inserts its deadline. -/
theorem test_keepalive_inserts :
    (after (.keepaliveIntervalWrite 0 500) { live with tick := 9000 }).deadlines = [⟨.keepalive 0, 9500, false⟩] := by decide

/-- R166: a read of TICKL returns bits 15:0 and keeps bits 31:16 for TICKH. -/
theorem test_ticklRead_snapshot :
    let t := after (.ticklRead 0) { live with tick := 0x12345678 }
    (t.interface 0).busOut = 0x5678 ∧ t.readWord 0 0x19 = 0x1234 := by decide

/-- R85: a pop of an empty inbox changes nothing, and one of an inbox with two entries leaves the second. -/
theorem test_pop_takes_head :
    after (.pop 0 1) live = live ∧
      ((after (.pop 0 1) (live.setInbox 0 ⟨[⟨0, .leaseRevoked ⟨0, 0⟩⟩, ⟨3, .barrierOpen 6 4⟩], 0⟩)).readWord 0 0x0C) = 5 := by
  decide

/-- R129: a one written to DSUM removes that port only. -/
theorem test_summaryClear :
    ((after (.summaryClear 0 4) (live.setSession 0 ⟨.attached, 1, .none, 0xC, 0⟩)).session 0).summary = 8 := by decide

/-- R160 to R162: with the completion flag set, its enable asserts INTn, and a one to ISTAT bit 2 releases it. -/
theorem test_intn_follows_flags :
    let t := after (.ienWrite 0 4) (live.setUnit 0 { live.unit 0 with completion := true })
    t.intn 0 = true ∧ (after (.istatClear 0 4) t).intn 0 = false := by decide

/-- R165: a write to ARG1 is stored, a write to the read-only IDENT is ignored. -/
theorem test_registerWrite :
    (after (.registerWrite 0 0x03 9) live).readWord 0 0x03 = 9 ∧ after (.registerWrite 0 0x00 9) live = live := by decide

/-! ### Resets -/

/-- R125: a port reset departs an ATTACHED port with cause PORT_RESET and sets the cap to 6. -/
theorem test_portReset_departs :
    let t := after (.portReset 2) (live.setPool 2 ⟨0, 9, 24⟩)
    (t.session 2).lastCause = .portReset ∧ t.pool 2 = ⟨0, 9, 6⟩ ∧ t.held 2 = true := by decide

/-- R125: a soft reset abandons the command in flight. -/
theorem test_softReset_abandons :
    ((after (.softReset 0 1) (asks live 0 .query ⟨0, 0, 0, 0⟩)).unit 0).inFlight = none := by decide

/-- R126: while PRSTn is low a read returns 0, and after its release it does not. -/
theorem test_prstnRelease :
    (live.setHeld 2 true).readWord 2 0x00 = 0 ∧ (after (.prstnRelease 2) (live.setHeld 2 true)).readWord 2 0x00 = 0x4410 := by
  decide

/-- R127: the supervisor identity is sampled at the release of RESETn, and DEVICE_RESET goes back to the reset state. -/
theorem test_resets :
    (after (.resetnRelease 3) State.reset).supervisor = 3 ∧ after .deviceReset live = State.reset := by decide

/-! ### A state and operands for the hypotheses of each statement -/

/-- Every request of `asks` at an ATTACHED port meets `Requests`. -/
theorem requests_asks {s : State} {p : Port} (c : Command) (a : Args) (h : s.attached p = true) :
    Requests (asks s p c a) p c a := by
  refine ⟨?_, ?_⟩
  · simp [asks, State.unit, State.setUnit]
  · simpa [asks, State.attached, State.session, State.setUnit] using h

theorem witness_StepRunsFrontCommand :
    ({ live with pending := [.tick, .lockVisit] } : State).pending = .tick :: [.lockVisit] ∧ live.pending = [] := by decide

/-- Nothing in flight, the engine idle, and at the head of the list a wait deadline that is not due. -/
theorem witness_NothingToTakeChangesNothing :
    let s := { live with deadlines := [⟨.wait 0 ⟨0, 0⟩, 5, false⟩] }
    (s.unit 0).inFlight = none ∧ s.engine = .idle ∧ s.deadlines.head?.map (·.due) = some false := by decide

/-- The sweep is at lock 3 with P2, P3 waits for it; lock 0 is leased to P0.0 with P1.2 waiting and its wait due; lock 8 of P2
is shared; barrier 0 gathers; P1 has a keepalive interval; and P1's DEFINE_FIXED is in flight. -/
def busy : State :=
  let s := live.setLock 0 { freeEntry .shared with
    leasePeriod := 5, exclusiveHolder := some ⟨0, 0⟩, queue := [⟨⟨1, 2⟩, 0, .exclusive, 7, 2⟩] }
  let s := s.setLock 8 { freeEntry .shared with allocator := some 2, sharedHolders := [⟨2, 1⟩, ⟨3, 0⟩], mark := .abandoned }
  let s := s.setBarrier 0 ⟨.gathering, 3, [⟨0, 1⟩, ⟨1, 1⟩], [⟨0, 1⟩]⟩
  let s := (s.setInbox 0 ⟨[⟨0, .leaseRevoked ⟨0, 0⟩⟩], 2⟩).setInbox 1 ⟨[], 2⟩
  let s := s.setPool 1 ⟨1, 8, 6⟩
  let s := (s.setSession 1 ⟨.attached, 1, .none, 0, 2⟩).setSession 2 ⟨.sweeping, 1, .detach, 0, 0⟩
  let s := s.setSession 3 ⟨.pendingSweep, 1, .detach, 0, 0⟩
  let s := asks s 1 .defineFixed ⟨0x0101, 9, 0, 0⟩
  { s with
    freeLocks := State.reset.freeLocks.tail, freeRecords := 23, engine := .busy 2 (.locks 3), departureQueue := [3]
    deadlines := [⟨.wait 0 ⟨1, 2⟩, 0, true⟩, ⟨.keepalive 1, 2, false⟩, ⟨.lease 0, 4, false⟩]
    pending := [.waitExpiry] }

/-- Every step from `busy` answers a next state. -/
theorem busy_steps : ∃ t, step busy = .next t := ⟨_, rfl⟩

theorem busy_sweepQueue : SweepQueueSound busy := by unfold SweepQueueSound; decide

theorem busy_barriers : BarriersSound busy := by unfold BarriersSound Barrier.Sound; decide

theorem busy_requests : RequestsChecked busy ∧ DeviceResetHeld busy := by
  unfold RequestsChecked DeviceResetHeld; decide

theorem busy_lockTable : LockTableSound busy := by
  unfold LockTableSound FreeListSound LockEntry.HoldersSound LockEntry.QueueSound LockEntry.FreeSound LockEntry.FixedSound
  decide

theorem busy_ports : PortsSound busy := by unfold PortsSound; decide

theorem busy_sweptClear : SweptClear busy := by
  refine ⟨by unfold LockEntry.clearOf Barrier.clearOf; decide, ?_⟩
  intro p pos h
  have : (Engine.busy 2 (.locks 3)) = .busy p pos := h
  cases this
  unfold LockEntry.clearOf Barrier.clearOf Position.pastLock Position.pastBarrier
  decide

theorem busy_deadlineOrder : DeadlinesOrdered busy := by unfold DeadlinesOrdered Deadline.before; decide

theorem busy_deadlinesMatch : DeadlinesMatch busy := by
  refine ⟨by decide, ?_, ?_, ?_⟩
  · intro d h
    have : d = ⟨.wait 0 ⟨1, 2⟩, 0, true⟩ ∨ d = ⟨.keepalive 1, 2, false⟩ ∨ d = ⟨.lease 0, 4, false⟩ := by
      simpa [busy] using h
    rcases this with rfl | rfl | rfl <;> unfold State.limits <;> decide
  · unfold State.limits; decide
  · unfold State.limits; decide

theorem busy_waiterPool : PoolCounts busy ∧ TicketsDistinct busy := by unfold PoolCounts TicketsDistinct; decide

theorem busy_inboxRoom : InboxRoom busy := by unfold InboxRoom; decide

theorem witness_SweepQueueIsKept : SweepQueueSound busy ∧ ∃ t, step busy = .next t := ⟨busy_sweepQueue, busy_steps⟩

theorem witness_BarriersAreKept : BarriersSound busy ∧ ∃ t, step busy = .next t := ⟨busy_barriers, busy_steps⟩

/-- P1's DEFINE_FIXED in `busy` is such a request, and P1 is ATTACHED. -/
theorem busy_requestsAttached :
    RequestsAttached busy ∧ (busy.unit 1).inFlight = some ⟨.defineFixed, ⟨0x0101, 9, 0, 0⟩, .handed false⟩ := by
  have inFlight_attached : ∀ p : Port, (busy.unit p).inFlight ≠ none → busy.attached p = true := by decide
  exact ⟨fun p c a h _ => inFlight_attached p (by simp [h]), by decide⟩

theorem witness_RequestsStayChecked :
    (RequestsChecked busy ∧ DeviceResetHeld busy) ∧ (RequestsAttached busy ∧ SweepQueueSound busy) ∧
      ∃ t, step busy = .next t :=
  ⟨busy_requests, ⟨busy_requestsAttached.1, busy_sweepQueue⟩, busy_steps⟩

theorem witness_LockTableIsKept : LockTableSound busy ∧ RequestsChecked busy ∧ ∃ t, step busy = .next t :=
  ⟨busy_lockTable, busy_requests.1, busy_steps⟩

/-- P3's PRSTn pin is low after a port reset that met it DETACHED, and is about to be released. -/
def heldPort : State :=
  { State.reset with resetLow := false, prstLow := #v[false, false, false, true], pending := [.prstnRelease 3] }

/-- The second clause is met by a port held in reset and by the part with RESETn low. -/
theorem witness_PortsAndResetsAreKept :
    (PortsSound busy ∧ SweepQueueSound busy ∧ ∃ t, step busy = .next t) ∧
    (heldPort.held 3 = true ∧ HeldPortsSound heldPort ∧ DeviceResetHeld heldPort ∧ ∃ t, step heldPort = .next t) ∧
    State.reset.resetLow = true ∧ HeldPortsSound State.reset ∧ DeviceResetHeld State.reset :=
  ⟨⟨busy_ports, busy_sweepQueue, busy_steps⟩,
    ⟨by decide, by unfold HeldPortsSound; decide, by unfold DeviceResetHeld; decide, _, rfl⟩,
    by decide, by unfold HeldPortsSound; decide, by unfold DeviceResetHeld; decide⟩

theorem witness_SweptPortsStayClear :
    SweptClear busy ∧ SweepQueueSound busy ∧ BarriersSound busy ∧ ∃ t, step busy = .next t :=
  ⟨busy_sweptClear, busy_sweepQueue, busy_barriers, busy_steps⟩

theorem witness_DeadlineOrderIsKept : DeadlinesOrdered busy ∧ ∃ t, step busy = .next t := ⟨busy_deadlineOrder, busy_steps⟩

theorem witness_DeadlinesMatchIsKept :
    DeadlinesMatch busy ∧ LockTableSound busy ∧ SweepQueueSound busy ∧ ∃ t, step busy = .next t :=
  ⟨busy_deadlinesMatch, busy_lockTable, busy_sweepQueue, busy_steps⟩

theorem witness_WaiterPoolIsKept : (PoolCounts busy ∧ TicketsDistinct busy) ∧ ∃ t, step busy = .next t :=
  ⟨busy_waiterPool, busy_steps⟩

theorem witness_InboxRoomIsKept :
    InboxRoom busy ∧ LockTableSound busy ∧ BarriersSound busy ∧ DeadlinesMatch busy ∧ ∃ t, step busy = .next t :=
  ⟨busy_inboxRoom, busy_lockTable, busy_barriers, busy_deadlinesMatch, busy_steps⟩

theorem witness_CmdWriteTakesCommand :
    live.resetLow = false ∧ live.held 3 = false ∧ (live.unit 3).inFlight = none := by decide

theorem witness_CmdWriteWhileBusySetsOverrun :
    (asks live 3 .touch ⟨0, 0, 0, 0⟩).resetLow = false ∧ (asks live 3 .touch ⟨0, 0, 0, 0⟩).held 3 = false ∧
      ((asks live 3 .touch ⟨0, 0, 0, 0⟩).unit 3).inFlight ≠ none := by decide

theorem witness_CompletionPostsOutcome :
    ((live.setUnit 0 { live.unit 0 with
      inFlight := some ⟨.cancel, ⟨0, 0, 0, 0⟩, .answered ⟨.noSuchTicket, 0, 0, 0⟩⟩ }).unit 0).inFlight
      = some ⟨.cancel, ⟨0, 0, 0, 0⟩, .answered ⟨.noSuchTicket, 0, 0, 0⟩⟩ := by decide

/-- A request of a SWEEPING port, and one whose port has departed and is ATTACHED again. -/
theorem witness_DepartedRequestsAreRefused :
    (((asks seq3 2 .release ⟨0, 0, 0, 0⟩).unit 2).inFlight = some ⟨.release, ⟨0, 0, 0, 0⟩, .handed false⟩ ∧
      Command.release ≠ .attach ∧ (asks seq3 2 .release ⟨0, 0, 0, 0⟩).attached 2 = false) ∧
    ((live.setUnit 0 { live.unit 0 with inFlight := some ⟨.attach, ⟨0, 0, 0, 0⟩, .handed true⟩ }).unit 0).inFlight
      = some ⟨.attach, ⟨0, 0, 0, 0⟩, .handed true⟩ := by decide

theorem witness_AllocTakesHead :
    Requests (asks { live with freeLocks := [] } 0 .alloc ⟨2, 0, 0, 0⟩) 0 .alloc ⟨2, 0, 0, 0⟩ ∧
      Requests (asks live 0 .alloc ⟨2, 0, 0, 0⟩) 0 .alloc ⟨2, 0, 0, 0⟩ ∧
      (asks live 0 .alloc ⟨2, 0, 0, 0⟩).freeLocks.head? = some 8 :=
  ⟨requests_asks _ _ (by decide), requests_asks _ _ (by decide), by decide⟩

theorem witness_RetireFreesLock : Requests (asks lock8 0 .retire ⟨0x2000, 0, 0, 0⟩) 0 .retire ⟨0x2000, 0, 0, 0⟩ :=
  requests_asks _ _ (by decide)

/-- Indices 0 and 7, the ends of the range of fixed locks. -/
theorem witness_DefineFixedSetsLock :
    ∀ a ∈ ([⟨0x0100, 0, 0, 0⟩, ⟨0x0207, 500, 0, 0⟩] : List Args),
      Requests (asks live 1 .defineFixed a) 1 .defineFixed a ∧ argsInRange .defineFixed a = true ∧
        ((asks live 1 .defineFixed a).lock a.fixedIndex).FixedSound a.fixedIndex := by
  have key : ∀ a ∈ ([⟨0x0100, 0, 0, 0⟩, ⟨0x0207, 500, 0, 0⟩] : List Args), argsInRange .defineFixed a = true ∧
      ((asks live 1 .defineFixed a).lock a.fixedIndex).FixedSound a.fixedIndex := by
    unfold LockEntry.FixedSound; decide
  exact fun a h => ⟨requests_asks _ _ (by decide), key a h⟩

/-- A queue of 24 records and a set of 32 shared holders are within the bounds. -/
theorem witness_QueryReportsLock :
    let e := { freeEntry .shared with
      queue := List.replicate 24 ⟨⟨0, 0⟩, 8, .shared, 0, 1⟩, sharedHolders := List.replicate 32 ⟨1, 0⟩ }
    Requests (asks (live.setLock 8 e) 2 .query ⟨0x2000, 0, 0, 0⟩) 2 .query ⟨0x2000, 0, 0, 0⟩ ∧
      e.queue.length ≤ 24 ∧ e.sharedHolders.length ≤ 32 :=
  ⟨requests_asks _ _ (by decide), by decide, by decide⟩

/-- A shared request for a lock of EXCLUSIVE kind does not pass. -/
theorem witness_AcquireIsRefusedInOrder :
    Requests (asks live 1 .acquire ⟨0x0000, 0x20, 1, 0⟩) 1 .acquire ⟨0x0000, 0x20, 1, 0⟩ ∧
      ¬ AcquirePasses (asks live 1 .acquire ⟨0x0000, 0x20, 1, 0⟩) ⟨1, 0⟩ ⟨0, 0⟩ .shared :=
  ⟨requests_asks _ _ (by decide), by unfold AcquirePasses Valid; decide⟩

/-- Lock 26 of the sequence 10.1, taken shared, and exclusively with 15 and with 16 entries of the inbox reserved. -/
theorem witness_AcquireIsGrantedAtOnce :
    let shared := asks seq1 1 .acquire ⟨0x6800, 0x20, 65535, 0⟩
    let full (n : Nat) := asks (seq1.setInbox 1 ⟨[], n⟩) 1 .acquire ⟨0x6800, 0x10, 0, 0⟩
    (Requests shared 1 .acquire ⟨0x6800, 0x20, 65535, 0⟩ ∧ AcquirePasses shared ⟨1, 0⟩ ⟨26, 0⟩ .shared ∧
      (shared.lock 26).queue = [] ∧ (shared.lock 26).Accepts .shared ∧ ¬ (shared.lock 26).Leases .shared) ∧
    ∀ n ∈ [15, 16],
      Requests (full n) 1 .acquire ⟨0x6800, 0x10, 0, 0⟩ ∧ AcquirePasses (full n) ⟨1, 0⟩ ⟨26, 0⟩ .exclusive ∧
      ((full n).lock 26).queue = [] ∧ ((full n).lock 26).Accepts .exclusive ∧ ((full n).lock 26).Leases .exclusive ∧
      (16 ≤ ((full n).inbox 1).entries.length + ((full n).inbox 1).reserved ↔ n = 16) := by
  unfold Requests AcquirePasses Valid LockEntry.Accepts LockEntry.Leases; decide

/-- P1.4's shared ACQUIRE of lock 26 with the wait limit given, in state `s`. -/
def waits (s : State) (limit : Word) : State := asks s 1 .acquire ⟨0x6800, 0x24, limit, 0⟩

/-- P1.4 behind the queue of 10.1: with wait limit 0; with limit 1 and P1 at its cap, with no free record, with 16 entries
reserved. -/
theorem witness_AcquireFindsNoRoom :
    let states := [waits seq1e4 0, waits (seq1e4.setPool 1 ⟨6, 0, 6⟩) 1, waits { seq1e4 with freeRecords := 0 } 1,
      waits (seq1e4.setInbox 1 ⟨[], 16⟩) 1]
    (∀ s ∈ states, AcquirePasses s ⟨1, 4⟩ ⟨26, 0⟩ .shared ∧ ¬((s.lock 26).queue = [] ∧ (s.lock 26).Accepts .shared)) ∧
    states.map (fun s => (s.unit 1).inFlight) =
      [0, 1, 1, 1].map (fun limit => some ⟨.acquire, ⟨0x6800, 0x24, limit, 0⟩, .handed false⟩) ∧
    (∀ s ∈ states, s.attached 1 = true) ∧
    states.map (fun s => decide ((s.pool 1).cap ≤ (s.pool 1).count)) = [false, true, false, false] ∧
    states.map (fun s => s.freeRecords == 0) = [false, false, true, false] ∧
    states.map (fun s => decide (16 < (s.inbox 1).entries.length + (s.inbox 1).reserved + 1))
      = [false, false, false, true] := by
  unfold AcquirePasses Valid LockEntry.Accepts; decide

/-- The same with room for exactly one entry. -/
theorem witness_AcquireQueues :
    let a : Args := ⟨0x6800, 0x24, 1, 0⟩
    let s := asks (seq1e4.setInbox 1 ⟨[], 15⟩) 1 .acquire a
    Requests s 1 .acquire a ∧ AcquirePasses s ⟨1, a.lockAgent⟩ a.handle a.mode ∧
    ¬((s.lock a.handle.index).queue = [] ∧ (s.lock a.handle.index).Accepts a.mode) ∧ a.arg2 ≠ 0 ∧
    (s.pool 1).count < (s.pool 1).cap ∧ s.freeRecords ≠ 0 ∧
    (s.inbox 1).entries.length + (s.inbox 1).reserved + 1 ≤ 16 := by
  unfold Requests AcquirePasses Valid LockEntry.Accepts; decide

theorem witness_TicketIsFirstFree : (busy.records.filter fun x => x.requester.port == 1).length ≤ 24 := by decide

theorem witness_ReleaseEndsHold :
    Requests (asks seq1e10 0 .release ⟨0x6800, 2, 0, 0⟩) 0 .release ⟨0x6800, 2, 0, 0⟩ ∧
      (seq1e10.lock 26).exclusiveHolder = some ⟨0, 2⟩ :=
  ⟨requests_asks _ _ (by decide), by decide⟩

theorem witness_DowngradeSharesHold :
    Requests (asks seq1e10 0 .downgrade ⟨0x6800, 2, 0, 0⟩) 0 .downgrade ⟨0x6800, 2, 0, 0⟩ ∧
      (seq1e10.lock 26).exclusiveHolder = some ⟨0, 2⟩ ∧ (seq1e10.lock 26).kind = .shared :=
  ⟨requests_asks _ _ (by decide), by decide, by decide⟩

theorem witness_RenewMovesLease :
    ((asks seq3 2 .renew ⟨0, 0, 0, 0⟩).unit 2).inFlight = some ⟨.renew, ⟨0, 0, 0, 0⟩, .handed false⟩ ∧
      (asks seq3 2 .renew ⟨0, 0, 0, 0⟩).attached 2 = false ∧
      Requests (asks seq1e10 0 .renew ⟨0x6800, 2, 0, 0⟩) 0 .renew ⟨0x6800, 2, 0, 0⟩ :=
  ⟨by decide, by decide, requests_asks _ _ (by decide)⟩

/-- In 10.1, ticket 0 names P0's one record; ticket 1 names none. -/
theorem witness_CancelEndsWait :
    let s (n : Word) := asks seq1e4 0 .cancel ⟨n, 0, 0, 0⟩
    (Requests (s 0) 0 .cancel ⟨0, 0, 0, 0⟩ ∧
      (⟨⟨0, 2⟩, 26, .exclusive, 0, 2⟩ : WaiterRecord) ∈ ((s 0).lock 26).queue ∧
      ∀ j : LockIndex, ∀ x ∈ ((s 0).lock j).queue,
        x.requester.port = 0 → x.ticket = 0 → j = 26 ∧ x = ⟨⟨0, 2⟩, 26, .exclusive, 0, 2⟩) ∧
    Requests (s 1) 0 .cancel ⟨1, 0, 0, 0⟩ ∧
      ∀ j : LockIndex, ∀ x ∈ ((s 1).lock j).queue, ¬(x.requester.port = 0 ∧ x.ticket = 1) := by
  unfold Requests; decide

/-- A head of a departed port, a blocked live head, and a live head that is admitted; an empty queue. -/
theorem witness_EvaluationGrantsInOrder :
    let free := seq3.setLock 3 { seq3.lock 3 with exclusiveHolder := none }
    let s := free.setSession 0 ⟨.pendingSweep, 1, .detach, 0, 0⟩
    (free.lock 4).queue = [] ∧ (free.lock 3).queue = [⟨⟨0, 0⟩, 3, .exclusive, 2, 1⟩] ∧ s.attached 0 = false ∧
      (free.attached 0 = true ∧ (free.lock 3).Accepts .exclusive ∧ (free.lock 3).leasePeriod = 0) ∧
      seq3.attached 0 = true ∧ ¬ (seq3.lock 3).Accepts .exclusive := by
  unfold LockEntry.Accepts; decide

theorem witness_PostDeliversNote :
    ((asks seq3 2 .post ⟨0, 0, 0, 0⟩).unit 2).inFlight = some ⟨.post, ⟨0, 0, 0, 0⟩, .handed false⟩ ∧
      (asks seq3 2 .post ⟨0, 0, 0, 0⟩).attached 2 = false ∧
      Requests (asks live 0 .post ⟨0x0132, 5, 6, 7⟩) 0 .post ⟨0x0132, 5, 6, 7⟩ :=
  ⟨by decide, by decide, requests_asks _ _ (by decide)⟩

/-- Every barrier command of an ATTACHED port at the barrier of 10.4. -/
theorem witness_barrier_commands (c : Command) (a : Args) : Requests (asks seq4 1 c a) 1 c a :=
  requests_asks _ _ (by decide)

theorem witness_JoinAppendsMember : Requests (asks seq4 1 .join ⟨0x26, 0, 0, 0⟩) 1 .join ⟨0x26, 0, 0, 0⟩ :=
  witness_barrier_commands _ _

theorem witness_LeaveRemovesMember : Requests (asks seq4 1 .leave ⟨0x16, 0, 0, 0⟩) 1 .leave ⟨0x16, 0, 0, 0⟩ :=
  witness_barrier_commands _ _

theorem witness_ArriveWaitsOrOpens : Requests (asks seq4 1 .arrive ⟨0x16, 0, 0, 0⟩) 1 .arrive ⟨0x16, 0, 0, 0⟩ :=
  witness_barrier_commands _ _

theorem witness_WithdrawDropsArrival : Requests (asks seq4 1 .withdraw ⟨0x16, 0, 0, 0⟩) 1 .withdraw ⟨0x16, 0, 0, 0⟩ :=
  witness_barrier_commands _ _

theorem witness_BreakEndsRound : Requests (asks seq4 1 .breakBarrier ⟨0x16, 0, 0, 0⟩) 1 .breakBarrier ⟨0x16, 0, 0, 0⟩ :=
  witness_barrier_commands _ _

theorem witness_RearmAndBarrierQuery :
    Requests (asks seq4 1 .rearm ⟨0x16, 0, 0, 0⟩) 1 .rearm ⟨0x16, 0, 0, 0⟩ ∧
      Requests (asks seq4 1 .barrierQuery ⟨0x06, 0, 0, 0⟩) 1 .barrierQuery ⟨0x06, 0, 0, 0⟩ ∧
      (seq4.barrier 6).members.length ≤ 8 ∧ (seq4.barrier 6).arrived.length ≤ 7 :=
  ⟨witness_barrier_commands _ _, witness_barrier_commands _ _, by decide, by decide⟩

theorem witness_AttachStartsSession :
    let s := asks (live.setSession 2 ⟨.detached, 255, .detach, 0, 0⟩) 2 .attach ⟨0, 0, 0, 0⟩
    (s.unit 2).inFlight = some ⟨.attach, ⟨0, 0, 0, 0⟩, .handed false⟩ := by decide

/-- The target of FORCE_DETACH is the issuer's own port, another, and a port that is not ATTACHED. -/
theorem witness_DetachAndForceDetachDepart :
    Requests (asks live 0 .detach ⟨0, 0, 0, 0⟩) 0 .detach ⟨0, 0, 0, 0⟩ ∧
      Requests (asks live 0 .touch ⟨0, 0, 0, 0⟩) 0 .touch ⟨0, 0, 0, 0⟩ ∧
      (∀ n : Word, Requests (asks seq3 1 .forceDetach ⟨n, 0, 0, 0⟩) 1 .forceDetach ⟨n, 0, 0, 0⟩) ∧
      seq3.attached 1 = true ∧ seq3.attached 0 = true ∧ seq3.attached 2 = false :=
  ⟨requests_asks _ _ (by decide), requests_asks _ _ (by decide), fun _ => requests_asks _ _ (by decide), by decide,
    by decide, by decide⟩

theorem witness_KeepaliveExpiryDeparts :
    ({ live with deadlines := [⟨.keepalive 2, 9500, true⟩] } : State).deadlines = ⟨.keepalive 2, 9500, true⟩ :: [] ∧
      ({ live with deadlines := [⟨.keepalive 2, 9500, true⟩] } : State).attached 2 = true := by decide

theorem witness_TickAdvancesCounter : live.resetLow = false := by decide

theorem witness_WaitExpiryEndsWait :
    busy.deadlines = ⟨.wait 0 ⟨1, 2⟩, 0, true⟩ :: [⟨.keepalive 1, 2, false⟩, ⟨.lease 0, 4, false⟩] ∧
      (⟨⟨1, 2⟩, 0, .exclusive, 7, 2⟩ : WaiterRecord) ∈ (busy.lock 0).queue ∧
      ∀ x ∈ (busy.lock 0).queue, x.requester = ⟨1, 2⟩ → x = ⟨⟨1, 2⟩, 0, .exclusive, 7, 2⟩ := by decide

theorem witness_LeaseExpiryEndsHold :
    seq2.deadlines = ⟨.lease 33, 1200, true⟩ :: [] ∧ (seq2.lock 33).exclusiveHolder = some ⟨3, 0⟩ := by decide

/-- At lock 3, and at lock 63, the last. -/
theorem witness_LockVisitClearsPort :
    seq3.engine = .busy 2 (.locks 3) ∧ ({ seq3 with engine := .busy 2 (.locks 63) } : State).engine = .busy 2 (.locks 63) :=
  ⟨rfl, rfl⟩

/-- At barrier 6, and at barrier 7, the last. -/
theorem witness_BarrierVisitClearsPort :
    ({ seq4 with engine := .busy 3 (.barriers 6) } : State).engine = .busy 3 (.barriers 6) ∧
      ({ seq4 with engine := .busy 3 (.barriers 7) } : State).engine = .busy 3 (.barriers 7) := ⟨rfl, rfl⟩

/-- The last step of a sweep with P3 waiting, and with none waiting. -/
theorem witness_FinalStepEndsSweep :
    SweepQueueSound { busy with engine := .busy 2 .final } ∧ busy.departureQueue = 3 :: [] ∧
      SweepQueueSound { seq3 with engine := .busy 2 .final } ∧ seq3.departureQueue = [] := by
  unfold SweepQueueSound; decide

/-- For the writes and reads of a port that answers (FlagWritesAct, SettingWritesAct, RegisterWriteAndTicklRead,
WindowShowsState, HeadWordsShowEntry): both pins are high. -/
theorem witness_port_answers : live.resetLow = false ∧ ∀ p : Port, live.held p = false := by decide

theorem witness_FlagWritesAct : live.resetLow = false ∧ live.held 0 = false := by decide

theorem witness_SettingWritesAct : live.resetLow = false ∧ live.held 1 = false := by decide

/-- The four argument words, a plain word beside them, and a word that is not plain. -/
theorem witness_RegisterWriteAndTicklRead :
    (live.resetLow = false ∧ live.held 2 = false) ∧ (∀ off ∈ ([2, 5] : List Offset), Offset.plain off = true) ∧
      Offset.plain 1 = true ∧ (1 : Offset).val ∉ [2, 3, 4, 5] ∧ Offset.plain 6 = false := by decide

theorem witness_HeldPortTakesNoCycle : State.reset.resetLow = true ∧ (live.setHeld 2 true).held 2 = true := by decide

/-- Each premise: the pins high, the port's pin low already, and RESETn low. -/
theorem witness_PortResetResetsWindow :
    (live.resetLow = false ∧ live.held 2 = false) ∧ (live.setHeld 2 true).held 2 = true ∧
      (State.reset.resetLow = true ∧ State.reset.held 2 = false) := by decide

theorem witness_DeviceResetAndRelease : State.reset.resetLow = true ∧ live.resetLow = false := by decide

/-- The counts at their bounds, and both forms of the SWEEP word. -/
theorem witness_WindowShowsState :
    (live.resetLow = false ∧ live.held 1 = false) ∧ (live.inbox 1).entries.length ≤ 16 ∧ (live.pool 1).cap ≤ 24 ∧
      live.freeRecords ≤ 24 ∧ live.freeLocks.length ≤ 56 ∧ live.engine = .idle ∧
      ((1 : Port) = busy.supervisor ∧ busy.engine = .busy 2 (.locks 3) ∧ busy.departureQueue.length ≤ 3) := by decide

theorem witness_HeadWordsShowEntry :
    (live.resetLow = false ∧ live.held 0 = false) ∧ (live.inbox 0).entries = [] ∧ (busy.inbox 0).entries ≠ [] := by decide

/-- Words at the ends of each range. -/
theorem witness_CodesAndFields :
    argsInRange .forceDetach ⟨3, 0, 0, 0⟩ = true ∧ argsInRange .forceDetach ⟨4, 0, 0, 0⟩ = false ∧
      argsInRange .defineFixed ⟨0x0207, 0, 0, 0⟩ = true ∧ argsInRange .defineFixed ⟨0x0208, 0, 0, 0⟩ = false ∧
      argsInRange .acquire ⟨0, 0x27, 0, 0⟩ = true ∧ argsInRange .acquire ⟨0, 0x30, 0, 0⟩ = false ∧
      argsInRange .cancel ⟨0x00FF, 0, 0, 0⟩ = true ∧ argsInRange .cancel ⟨0x0100, 0, 0, 0⟩ = false ∧
      argsInRange .post ⟨0x0773, 0x00FF, 0, 0⟩ = true ∧ argsInRange .post ⟨0x0774, 0, 0, 0⟩ = false ∧
      argsInRange .join ⟨0x77, 0, 0, 0⟩ = true ∧ argsInRange .join ⟨0x78, 0, 0, 0⟩ = false := by decide

/-- A command that ends a session in a state whose sweep conditions hold, and one that starts one. -/
theorem witness_OnlyNamedCommandsChange :
    let s := asks live 0 .detach ⟨0, 0, 0, 0⟩
    SweepQueueSound s ∧ s.attached 0 = true ∧ (∃ t, exec (.detach 0) s = .next t ∧ t.attached 0 = false) :=
  ⟨by unfold SweepQueueSound; decide, by decide, _, rfl, by decide⟩

/-- A FORCE_DETACH and another command, seen from another port. -/
theorem witness_OtherPortsUntouched :
    issuer (.forceDetach 1) = some 1 ∧ issuer (.acquire 1) = some 1 ∧ (0 : Port) ≠ 1 ∧
      (∃ t, exec (.forceDetach 1) (asks live 1 .forceDetach ⟨0, 0, 0, 0⟩) = .next t ∧ t.attached 0 = false) :=
  ⟨rfl, rfl, by decide, _, rfl, by decide⟩

end Sys2Proof.Tests
end

section
/-! PROOFS. How a served request ends: the two forms "refused, and nothing else changes" and "one lock entry rewritten,
and answered" that the commands on locks take. -/

namespace Sys2Proof.Machine

theorem OnlyLock.of_setLock (s : State) (i : LockIndex) (x : LockEntry) : OnlyLock i x s (s.setLock i x) :=
  ⟨s.setLock_lock_self i x, fun j hj => s.setLock_lock_ne i x j hj⟩

/-- An owner whose effect `t` leaves the command units alone answers the request as it stood in `s`. -/
theorem AnsweredWith.of_answer {s t : State} (h : t.units = s.units) (p : Port) (a : Answer) :
    AnsweredWith p a s (t.answer p a) := by
  have hunit : ∀ q, t.unit q = s.unit q := fun q => by simp only [State.unit, h]
  exact ⟨by simp [State.answer_unit, hunit], fun q hq => by simp [State.answer_unit, hunit, hq]⟩

theorem OnlyAnswers.of_answer (s : State) (p : Port) (a : Answer) : OnlyAnswers p a s (s.answer p a) :=
  ⟨.of_answer rfl p a, rfl⟩

/-! ### What the checks of RETIRE and DEFINE_FIXED read -/

theorem LockEntry.inUse_iff (e : LockEntry) :
    e.inUse = true ↔ e.exclusiveHolder ≠ none ∨ e.sharedHolders ≠ [] ∨ e.queue ≠ [] := by
  simp only [LockEntry.inUse, LockEntry.noHolder, Bool.or_eq_true, Bool.not_eq_true', Bool.and_eq_false_iff,
    Option.isNone_eq_false_iff, Option.isSome_iff_ne_none, List.isEmpty_eq_false_iff, or_assoc]

/-- R14's checks as one chain: handle validation (R7), fixed lock, allocator, use. -/
theorem retireRefusal_eq (p : Port) (h : Handle) (s : State) :
    retireRefusal p h s =
      if h.generation ≠ (s.lock h.index).generation then some .staleHandle
      else if (s.lock h.index).state = .free then some .notAllocated
      else if h.index.val < 8 then some .fixedLock
      else if (s.lock h.index).allocator ≠ some p ∧ (s.lock h.index).allocator ≠ none ∧ p ≠ s.supervisor then
        some .notOwner
      else if (s.lock h.index).inUse = true then some .inUse
      else none := by
  unfold retireRefusal State.validateHandle
  by_cases hgen : h.generation ≠ (s.lock h.index).generation
  · simp only [if_pos hgen]
  by_cases hfree : (s.lock h.index).state = .free
  · simp only [if_neg hgen, if_pos hfree]
  · simp only [if_neg hgen, if_neg hfree, and_left_comm]

theorem retireLock_of_refusal {p : Port} {h : Handle} {s : State} {r : ResultCode} (hr : retireRefusal p h s = some r) :
    retireLock p h s = (s, .bare r) := by
  simp only [retireLock, hr]

theorem retireLock_of_passes {p : Port} {h : Handle} {s : State} (hr : retireRefusal p h s = none) :
    retireLock p h s =
      ({ s.setLock h.index (s.lock h.index).retired with freeLocks := s.freeLocks ++ [h.index] }, .bare .ok) := by
  simp only [retireLock, hr]

theorem defineFixedLock_of_inUse {i : LockIndex} {s : State} (h : (s.lock i).inUse = true) (k : Kind) (lease : Word) :
    defineFixedLock i k lease s = (s, .bare .inUse) := by
  simp only [defineFixedLock, h, if_true]

theorem defineFixedLock_of_not_inUse {i : LockIndex} {s : State} (h : ¬ (s.lock i).inUse = true) (k : Kind)
    (lease : Word) :
    defineFixedLock i k lease s =
      (s.setLock i { s.lock i with kind := k, leasePeriod := lease }, answerHandle (s.handleOf i)) := by
  simp only [defineFixedLock, if_neg h]

/-- R152, check 4: the index a DEFINE_FIXED in range names is a fixed lock's. -/
theorem fixedIndex_lt_of_argsInRange {a : Args} (h : argsInRange .defineFixed a = true) :
    a.fixedIndex.val < Config.fixedLocks := by
  simp only [argsInRange, Bool.and_eq_true, decide_eq_true_eq] at h
  obtain ⟨⟨⟨hindex, -⟩, -⟩, -⟩ := h
  exact lt_of_le_of_lt (Nat.mod_le _ _) hindex

/-- R169: with generation 0 only the index field of the handle word is set. -/
theorem Handle.toWord_generation_zero (i : LockIndex) : Handle.toWord ⟨i, 0⟩ = BitVec.ofNat 16 (i.val * 1024) := by
  have hindex : fieldAt i.val 10 6 = BitVec.ofNat 16 (i.val * 1024) := by
    simp only [fieldAt, Nat.shiftLeft_eq, Nat.reducePow, Nat.mod_eq_of_lt i.isLt]
  have hgeneration : fieldAt (0 : BitVec 10).toNat 0 10 = 0 := rfl
  rw [Handle.toWord, hindex, hgeneration]
  exact BitVec.or_zero

/-! ### The two commands as steps -/

theorem exec_retire_of_requests {s : State} {p : Port} {a : Args} (h : Requests s p .retire a) :
    exec (.retire p) s = .next ((retireLock p a.handle s).1.answer p (retireLock p a.handle s).2) :=
  congrArg Host.Outcome.next (State.serve_of_requests h fun q b => retireLock q b.handle)

theorem exec_retire_of_refusal {s : State} {p : Port} {a : Args} {r : ResultCode} (h : Requests s p .retire a)
    (hr : retireRefusal p a.handle s = some r) :
    ∃ t, exec (.retire p) s = .next t ∧ OnlyAnswers p ⟨r, 0, 0, 0⟩ s t :=
  ⟨s.answer p (.bare r), by rw [exec_retire_of_requests h, retireLock_of_refusal hr], .of_answer s p _⟩

theorem exec_defineFixed_of_requests {s : State} {p : Port} {a : Args} (h : Requests s p .defineFixed a) :
    exec (.defineFixed p) s =
      .next ((defineFixedLock a.fixedIndex a.fixedKind a.lease s).1.answer p
        (defineFixedLock a.fixedIndex a.fixedKind a.lease s).2) :=
  congrArg Host.Outcome.next (State.serve_of_requests h fun _ b => defineFixedLock b.fixedIndex b.fixedKind b.lease)

end Sys2Proof.Machine
end

section
/-! PROOFS. The lock table's commands on locks as objects (chapter 1): RETIRE and DEFINE_FIXED. -/

open Sys2Proof Sys2Proof.Machine

/-- Settles O20: the refusals are the branches of `retireRefusal_eq`; behind the last one the lock is retired. -/
theorem retireFreesLock : Obligations.RetireFreesLock := by
  intro p s a hreq i e
  have hrefusal := retireRefusal_eq p a.handle s
  simp only [LockEntry.inUse_iff] at hrefusal
  split_ifs at hrefusal ⊢ with hgen hfree hfixed howner huse
  case pos | pos | pos | pos | pos => exact exec_retire_of_refusal hreq hrefusal
  case neg =>
    refine ⟨_, exec_retire_of_requests hreq, ?_⟩
    rw [retireLock_of_passes hrefusal]
    exact ⟨rfl, .of_setLock s i e.retired, .of_answer rfl p _⟩

/-- Settles O21: the lock is a fixed one, so R2's premise applies, and it is in use or its entry is rewritten. -/
theorem defineFixedSetsLock : Obligations.DefineFixedSetsLock := by
  intro p s a hreq hrange i e hsound
  obtain ⟨hstate, hgen, hallocator⟩ := hsound (fixedIndex_lt_of_argsInRange hrange)
  refine ⟨_, exec_defineFixed_of_requests hreq, ?_⟩
  by_cases huse : e.inUse = true
  · rw [if_pos (e.inUse_iff.1 huse), defineFixedLock_of_inUse huse]
    exact .of_answer s p _
  · have hword : (s.handleOf i).toWord = BitVec.ofNat 16 (i.val * 1024) := by
      rw [State.handleOf, hgen, Handle.toWord_generation_zero]
    have hlock := State.setLock_lock_self s i { e with kind := a.fixedKind, leasePeriod := a.lease }
    rw [if_neg (mt e.inUse_iff.2 huse), defineFixedLock_of_not_inUse huse, answerHandle, hword]
    exact ⟨rfl, .of_setLock s i _, (congrArg LockEntry.state hlock).trans hstate,
      (congrArg LockEntry.generation hlock).trans hgen, (congrArg LockEntry.allocator hlock).trans hallocator,
      .of_answer rfl p _⟩
end

section
/-! PROOFS. The lock table's commands on holds and waits, said once (chapter 2): the frames of one rewritten entry, the
checks of ACQUIRE and what its waiting branch does, the end of an exclusive hold, the search for a ticket, and each command
as a step of its owner. -/

namespace Sys2Proof.Machine

/-! ### One rewritten entry, among other changes -/

theorem OnlyLock.of_locks_eq {s t : State} {i : LockIndex} {x : LockEntry} (h : t.locks = (s.setLock i x).locks) :
    OnlyLock i x s t := by
  have hlock : ∀ k, t.lock k = (s.setLock i x).lock k := fun k => by simp only [State.lock, h]
  exact ⟨(hlock i).trans (s.setLock_lock_self i x), fun j hj => (hlock j).trans (s.setLock_lock_ne i x j hj)⟩

theorem OnlyPool.of_poolPorts_eq {s t : State} {p : Port} {x : PoolPort}
    (h : t.poolPorts = (s.setPool p x).poolPorts) : OnlyPool p x s t := by
  have hpool : ∀ k, t.pool k = (s.setPool p x).pool k := fun k => by simp only [State.pool, h]
  exact ⟨(hpool p).trans (s.setPool_pool_self p x), fun q hq => (hpool q).trans (s.setPool_pool_ne p x q hq)⟩

theorem OnlyInbox.of_inboxes_eq {s t : State} {p : Port} {x : Inbox} (h : t.inboxes = (s.setInbox p x).inboxes) :
    OnlyInbox p x s t := by
  have hinbox : ∀ k, t.inbox k = (s.setInbox p x).inbox k := fun k => by simp only [State.inbox, h]
  exact ⟨(hinbox p).trans (s.setInbox_inbox_self p x), fun q hq => (hinbox q).trans (s.setInbox_inbox_ne p x q hq)⟩

/-- An owner that refuses leaves the state to the answer alone. -/
theorem OnlyAnswers.of_refused {s : State} {c : ResultCode} {y : State × Answer} (h : y = (s, .bare c)) (p : Port) :
    OnlyAnswers p ⟨c, 0, 0, 0⟩ s (y.1.answer p y.2) := by
  subst h
  exact .of_answer s p (.bare c)

/-- Evaluation leaves the command units alone, so an owner that ends with it answers the request as it stood in `s`. -/
theorem EvaluatedAndAnswered.of_answer {s u : State} (h : u.units = s.units) (i : LockIndex) (p : Port) (a : Answer) :
    EvaluatedAndAnswered u i p a s ((u.evaluate i).answer p a) :=
  ⟨rfl, .of_answer ((u.evaluate_units i).trans h) p a⟩

/-! ### What the tests of the lock table read -/

theorem LockEntry.heldBy_iff (e : LockEntry) (r : Requester) :
    e.heldBy r = true ↔ e.exclusiveHolder = some r ∨ r ∈ e.sharedHolders := by
  simp only [LockEntry.heldBy, Bool.or_eq_true, beq_iff_eq, List.contains_iff_mem]

theorem LockEntry.waitedBy_iff (e : LockEntry) (r : Requester) :
    e.waitedBy r = true ↔ ∃ w ∈ e.queue, w.requester = r := by
  simp only [LockEntry.waitedBy, List.any_eq_true, beq_iff_eq]

theorem LockEntry.compatible_iff (e : LockEntry) (m : Mode) : e.compatible m = true ↔ e.Accepts m := by
  cases m <;> simp [LockEntry.compatible, LockEntry.noHolder, LockEntry.Accepts]

theorem LockEntry.leased_iff (e : LockEntry) (m : Mode) : e.leased m = true ↔ e.Leases m := by
  simp only [LockEntry.leased, LockEntry.Leases, Bool.and_eq_true, beq_iff_eq, bne_iff_ne]

theorem reservationsNeeded_eq (e : LockEntry) (m : Mode) :
    reservationsNeeded e m = if m = .exclusive ∧ e.leasePeriod ≠ 0 then 2 else 1 :=
  if_congr (e.leased_iff m) rfl rfl

/-- Handle validation (R7), seen from what follows it: `f` of its refusal, or `x` behind it. -/
theorem State.elim_validateHandle {α : Type} (s : State) (h : Handle) (x : α) (f : ResultCode → α) :
    (s.validateHandle h).elim x f =
      if h.generation ≠ (s.lock h.index).generation then f .staleHandle
      else if (s.lock h.index).state = .free then f .notAllocated
      else x := by
  unfold State.validateHandle
  split_ifs <;> rfl

theorem LockState.ne_free_iff (x : LockState) : x ≠ .free ↔ x = .allocated := by cases x <;> decide

/-! ### The checks of ACQUIRE (R30) -/

/-- R30's checks as one chain: handle validation (R7), kind, holders, queue. -/
theorem acquireRefusal_eq (r : Requester) (h : Handle) (m : Mode) (s : State) :
    acquireRefusal r h m s =
      if h.generation ≠ (s.lock h.index).generation then some .staleHandle
      else if (s.lock h.index).state = .free then some .notAllocated
      else if m = .shared ∧ (s.lock h.index).kind = .exclusive then some .wrongKind
      else if (s.lock h.index).exclusiveHolder = some r ∨ r ∈ (s.lock h.index).sharedHolders then some .alreadyHeld
      else if ∃ w ∈ (s.lock h.index).queue, w.requester = r then some .alreadyWaiting
      else none := by
  simp only [← LockEntry.heldBy_iff, ← LockEntry.waitedBy_iff]
  rw [← s.elim_validateHandle h _ some, acquireRefusal]
  cases s.validateHandle h <;> rfl

theorem acquireRefusal_of_passes {r : Requester} {h : Handle} {m : Mode} {s : State} (hpass : AcquirePasses s r h m) :
    acquireRefusal r h m s = none := by
  obtain ⟨⟨hgen, hallocated⟩, hkind, hexclusive, hshared, hqueue⟩ := hpass
  rw [acquireRefusal_eq, if_neg (not_not.2 hgen.symm), if_neg ((LockState.ne_free_iff _).2 hallocated), if_neg hkind,
    if_neg (not_or.2 ⟨hexclusive, hshared⟩), if_neg (by simpa using hqueue)]

/-- Where an ACQUIRE does not pass, the last check is the only one left when the others are met. -/
theorem acquireRefusal_of_not_passes {r : Requester} {h : Handle} {m : Mode} {s : State}
    (hpass : ¬ AcquirePasses s r h m) :
    acquireRefusal r h m s = some
      (if h.generation ≠ (s.lock h.index).generation then .staleHandle
        else if (s.lock h.index).state = .free then .notAllocated
        else if m = .shared ∧ (s.lock h.index).kind = .exclusive then .wrongKind
        else if (s.lock h.index).exclusiveHolder = some r ∨ r ∈ (s.lock h.index).sharedHolders then .alreadyHeld
        else .alreadyWaiting) := by
  rw [acquireRefusal_eq]
  split_ifs with hgen hfree hkind hheld hwaits
  case pos | pos | pos | pos | pos => rfl
  case neg =>
    have hvalid : Valid s h := ⟨(not_not.1 hgen).symm, (LockState.ne_free_iff _).1 hfree⟩
    obtain ⟨hexclusive, hshared⟩ := not_or.1 hheld
    exact absurd ⟨hvalid, hkind, hexclusive, hshared, fun w hw heq => hwaits ⟨w, hw, heq⟩⟩ hpass

theorem acquireLock_of_refusal {r : Requester} {h : Handle} {m : Mode} {s : State} {c : ResultCode}
    (hc : acquireRefusal r h m s = some c) (limit : Word) : acquireLock r h m limit s = (s, .bare c) := by
  simp only [acquireLock, hc]

/-! ### An ACQUIRE that must wait (R33 to R35) -/

/-- R33, R34: behind the checks, a request that cannot be granted at once is contended or goes to the queue. -/
theorem acquireLock_of_must_wait {r : Requester} {h : Handle} {m : Mode} {s : State} (hpass : AcquirePasses s r h m)
    (hwait : ¬((s.lock h.index).queue = [] ∧ (s.lock h.index).Accepts m)) (limit : Word) :
    acquireLock r h m limit s = if limit = 0 then (s, .bare .contended) else queueRequest r h.index m limit s := by
  have hgrant : ¬((s.lock h.index).queue.isEmpty && (s.lock h.index).compatible m) = true := by
    rwa [Bool.and_eq_true, List.isEmpty_iff, LockEntry.compatible_iff]
  simp only [acquireLock, acquireRefusal_of_passes hpass, if_neg hgrant]

/-- R24: the pool's refusals in their order. -/
theorem queueRequest_of_cap {s : State} {r : Requester} (hcap : (s.pool r.port).cap ≤ (s.pool r.port).count)
    (i : LockIndex) (m : Mode) (limit : Word) : queueRequest r i m limit s = (s, .bare .portCap) := by
  simp only [queueRequest, State.recordRefusal, if_pos hcap]

theorem queueRequest_of_pool_empty {s : State} {r : Requester} (hcap : (s.pool r.port).count < (s.pool r.port).cap)
    (hpool : s.freeRecords = 0) (i : LockIndex) (m : Mode) (limit : Word) :
    queueRequest r i m limit s = (s, .bare .poolEmpty) := by
  simp only [queueRequest, State.recordRefusal, if_neg (not_le.2 hcap), if_pos hpool]

theorem State.recordRefusal_eq_none {s : State} {p : Port} (hcap : (s.pool p).count < (s.pool p).cap)
    (hpool : s.freeRecords ≠ 0) : s.recordRefusal p = none := by
  rw [State.recordRefusal, if_neg (not_le.2 hcap), if_neg hpool]

/-- R77: a need of at least one entry is more than the free room, as counts of entries. -/
theorem Inbox.freeRoom_lt_iff (b : Inbox) {n : Nat} (hn : 1 ≤ n) :
    b.freeRoom < n ↔ 16 < b.entries.length + b.reserved + n := by
  simp only [Inbox.freeRoom, Config.inboxEntries]
  omega

theorem one_le_reservationsNeeded (e : LockEntry) (m : Mode) : 1 ≤ reservationsNeeded e m := by
  unfold reservationsNeeded
  split_ifs <;> decide

/-- R34: the third step, in the counts of the inbox. -/
theorem freeRoom_lt_reservationsNeeded_iff (s : State) (p : Port) (e : LockEntry) (m : Mode) :
    s.freeRoom p < reservationsNeeded e m ↔
      16 < (s.inbox p).entries.length + (s.inbox p).reserved +
        (if m = .exclusive ∧ e.leasePeriod ≠ 0 then 2 else 1) := by
  rw [State.freeRoom, Inbox.freeRoom_lt_iff _ (one_le_reservationsNeeded e m), reservationsNeeded_eq]

theorem queueRequest_of_inbox_full {s : State} {r : Requester} {i : LockIndex} {m : Mode}
    (hrecord : s.recordRefusal r.port = none) (hroom : s.freeRoom r.port < reservationsNeeded (s.lock i) m)
    (limit : Word) : queueRequest r i m limit s = (s, .bare .inboxFull) := by
  simp only [queueRequest, hrecord, if_pos hroom]

/-- R35: the state once record `w` has joined its queue with its reservations made and, for a wait limit of 1 to 65 534,
its deadline inserted. -/
def State.withWaiter (s : State) (w : WaiterRecord) (limit : Word) : State :=
  { (s.enqueue w).reserve w.requester.port w.reservations with
    deadlines :=
      if limit = 65535 then s.deadlines
      else placeDeadline s.tick ⟨.wait w.lock w.requester, s.tick + limit.setWidth 32, false⟩ s.deadlines }

theorem queueRequest_of_room {s : State} {r : Requester} {i : LockIndex} {m : Mode}
    (hrecord : s.recordRefusal r.port = none) (hroom : ¬ s.freeRoom r.port < reservationsNeeded (s.lock i) m)
    (limit : Word) :
    queueRequest r i m limit s =
      (s.withWaiter ⟨r, i, m, s.nextTicket r.port, reservationsNeeded (s.lock i) m⟩ limit,
        answerQueued (s.nextTicket r.port)) := by
  simp only [queueRequest, hrecord, if_neg hroom, Config.noLimit, State.withWaiter]
  split_ifs <;> rfl

/-! ### The end of an exclusive hold (R46, R48) -/

/-- Lock entry `i` becomes `x`, which keeps the lease period, and the lease of port `p`'s hold ends: without a lease period
only the locks change; else the lease deadline goes and one reservation is dropped. -/
theorem State.setLock_endLease {s : State} {i : LockIndex} {x : LockEntry} (p : Port)
    (hx : x.leasePeriod = (s.lock i).leasePeriod) :
    let u := (s.setLock i x).endLease i p
    OnlyLock i x s u ∧
    ((s.lock i).leasePeriod = 0 → u = { s with locks := u.locks }) ∧
    ((s.lock i).leasePeriod ≠ 0 →
      u = { s with
        locks := u.locks, inboxes := u.inboxes
        deadlines := s.deadlines.filter fun d => d.object != .lease i } ∧
      OnlyInbox p { s.inbox p with reserved := (s.inbox p).reserved - 1 } s u) := by
  intro u
  have hperiod : ((s.setLock i x).lock i).leasePeriod = (s.lock i).leasePeriod := by rw [s.setLock_lock_self, hx]
  refine ⟨.of_locks_eq (State.endLease_locks _ i p), fun hzero => ?_, fun hlease => ?_⟩
  · have hu : u = s.setLock i x := if_pos (hperiod.trans hzero)
    rw [hu]
    rfl
  · have hu : u = ((s.setLock i x).removeDeadline (.lease i)).dropReservations p 1 := if_neg (hperiod ▸ hlease)
    rw [hu]
    exact ⟨rfl, .of_inboxes_eq rfl⟩

/-- R45's and R46's checks as one chain: handle validation (R7), then the mode in which the requester holds the lock. -/
theorem releaseLock_eq (r : Requester) (h : Handle) (s : State) :
    releaseLock r h s =
      if h.generation ≠ (s.lock h.index).generation then (s, .bare .staleHandle)
      else if (s.lock h.index).state = .free then (s, .bare .notAllocated)
      else if (s.lock h.index).exclusiveHolder = some r then
        (((s.setLock h.index { s.lock h.index with exclusiveHolder := none }).endLease h.index r.port).evaluate h.index,
          .bare .ok)
      else if r ∈ (s.lock h.index).sharedHolders then
        ((s.setLock h.index
            { s.lock h.index with sharedHolders := (s.lock h.index).sharedHolders.erase r }).evaluate h.index,
          .bare .ok)
      else (s, .bare .notHolder) := by
  rw [← s.elim_validateHandle h _ fun c => (s, Answer.bare c), releaseLock]
  cases s.validateHandle h <;> rfl

/-- R47's checks as one chain, and R48's effect behind them. -/
theorem downgradeLock_eq (r : Requester) (h : Handle) (s : State) :
    downgradeLock r h s =
      if h.generation ≠ (s.lock h.index).generation then (s, .bare .staleHandle)
      else if (s.lock h.index).state = .free then (s, .bare .notAllocated)
      else if (s.lock h.index).exclusiveHolder ≠ some r then (s, .bare .notHolder)
      else if (s.lock h.index).kind = .exclusive then (s, .bare .wrongKind)
      else
        (((s.setLock h.index { s.lock h.index with exclusiveHolder := none, sharedHolders := [r] }).endLease h.index
            r.port).evaluate h.index,
          .bare .ok) := by
  rw [← s.elim_validateHandle h _ fun c => (s, Answer.bare c), downgradeLock]
  cases s.validateHandle h <;> rfl

/-! ### The end of a wait by its ticket (R49) -/

theorem State.findTicket_eq_none_iff (s : State) (p : Port) (t : BitVec 8) :
    s.findTicket p t = none ↔
      ∀ i : LockIndex, ∀ w ∈ (s.lock i).queue, ¬(w.requester.port = p ∧ w.ticket = t) := by
  simp [State.findTicket, List.findSome?_eq_none_iff]

/-- A record that is found stands in the queue of its lock, belongs to the port and carries the ticket. -/
theorem State.mem_queue_of_findTicket {s : State} {p : Port} {t : BitVec 8} {i : LockIndex} {w : WaiterRecord}
    (h : s.findTicket p t = some (i, w)) : w ∈ (s.lock i).queue ∧ w.requester.port = p ∧ w.ticket = t := by
  obtain ⟨j, -, hj⟩ := List.exists_of_findSome?_eq_some h
  obtain ⟨x, hfind, hx⟩ := Option.map_eq_some_iff.1 hj
  obtain ⟨rfl, rfl⟩ := Prod.mk.inj hx
  have hkey := List.find?_some hfind
  rw [Bool.and_eq_true, beq_iff_eq, beq_iff_eq] at hkey
  exact ⟨List.mem_of_find?_eq_some hfind, hkey⟩

/-- R27, R49: where the ticket names one record, that record is found. -/
theorem State.findTicket_of_unique {s : State} {p : Port} {t : BitVec 8} {i : LockIndex} {w : WaiterRecord}
    (hmem : w ∈ (s.lock i).queue) (hport : w.requester.port = p) (hticket : w.ticket = t)
    (hunique : ∀ j : LockIndex, ∀ x ∈ (s.lock j).queue, x.requester.port = p → x.ticket = t → j = i ∧ x = w) :
    s.findTicket p t = some (i, w) := by
  cases hfind : s.findTicket p t with
  | none => exact absurd ⟨hport, hticket⟩ ((s.findTicket_eq_none_iff p t).1 hfind i w hmem)
  | some found =>
    obtain ⟨j, x⟩ := found
    obtain ⟨hx, hxport, hxticket⟩ := State.mem_queue_of_findTicket hfind
    obtain ⟨rfl, rfl⟩ := hunique j x hx hxport hxticket
    rfl

theorem cancelWait_of_none {s : State} {p : Port} {t : BitVec 8} (h : s.findTicket p t = none) :
    cancelWait p t s = (s, .bare .noSuchTicket) := by
  simp only [cancelWait, h]

theorem cancelWait_of_some {s : State} {p : Port} {t : BitVec 8} {i : LockIndex} {w : WaiterRecord}
    (h : s.findTicket p t = some (i, w)) :
    cancelWait p t s =
      ((s.discardRecord i w).evaluate i, answerCancel (s.handleOf i) w.requester.agent w.mode) := by
  simp only [cancelWait, h]

/-- R25, R49: a discarded record is freed with all of its reservations, and nothing is delivered for it. -/
theorem RecordFreed.of_discardRecord (s : State) (i : LockIndex) (w : WaiterRecord) :
    RecordFreed i w (s.inbox w.requester.port).entries ((s.inbox w.requester.port).reserved - w.reservations) s
      (s.discardRecord i w) :=
  ⟨rfl, .of_locks_eq rfl, .of_poolPorts_eq rfl, .of_inboxes_eq rfl⟩

/-- R172: the agent and the mode of CANCEL's second result word stand in disjoint fields, so the word is their sum. -/
theorem cancel_word_eq (g : Agent) (m : Mode) :
    fieldAt g.val 0 4 ||| fieldAt m.code 4 2 = BitVec.ofNat 16 (g.val + 16 * m.code) := by
  cases m <;> revert g <;> decide

/-! ### The commands as steps -/

theorem exec_acquire_of_requests {s : State} {p : Port} {a : Args} (h : Requests s p .acquire a) :
    exec (.acquire p) s =
      .next ((acquireLock ⟨p, a.lockAgent⟩ a.handle a.mode a.arg2 s).1.answer p
        (acquireLock ⟨p, a.lockAgent⟩ a.handle a.mode a.arg2 s).2) :=
  congrArg Host.Outcome.next
    (State.serve_of_requests h fun q b => acquireLock ⟨q, b.lockAgent⟩ b.handle b.mode b.waitLimit)

theorem exec_release_of_requests {s : State} {p : Port} {a : Args} (h : Requests s p .release a) :
    exec (.release p) s =
      .next ((releaseLock ⟨p, a.lockAgent⟩ a.handle s).1.answer p (releaseLock ⟨p, a.lockAgent⟩ a.handle s).2) :=
  congrArg Host.Outcome.next (State.serve_of_requests h fun q b => releaseLock ⟨q, b.lockAgent⟩ b.handle)

theorem exec_downgrade_of_requests {s : State} {p : Port} {a : Args} (h : Requests s p .downgrade a) :
    exec (.downgrade p) s =
      .next ((downgradeLock ⟨p, a.lockAgent⟩ a.handle s).1.answer p (downgradeLock ⟨p, a.lockAgent⟩ a.handle s).2) :=
  congrArg Host.Outcome.next (State.serve_of_requests h fun q b => downgradeLock ⟨q, b.lockAgent⟩ b.handle)

theorem exec_cancel_of_requests {s : State} {p : Port} {a : Args} (h : Requests s p .cancel a) :
    exec (.cancel p) s = .next ((cancelWait p a.ticket s).1.answer p (cancelWait p a.ticket s).2) :=
  congrArg Host.Outcome.next (State.serve_of_requests h fun q b => cancelWait q b.ticket)

end Sys2Proof.Machine
end

section
/-! PROOFS. The lock table's commands on holds and waits (chapter 2): the refusals and the queueing of ACQUIRE, RELEASE,
DOWNGRADE and CANCEL. -/

open Sys2Proof Sys2Proof.Machine

/-- Settles O23: an ACQUIRE that does not pass has a first refusal, and the owner answers with it alone. -/
theorem acquireIsRefusedInOrder : Obligations.AcquireIsRefusedInOrder := by
  intro p s a hreq e r hpass
  have hrefused := acquireLock_of_refusal (acquireRefusal_of_not_passes hpass) a.arg2
  exact ⟨_, exec_acquire_of_requests hreq, .of_refused hrefused p⟩

/-- Settles O25: behind the checks each clause is one branch of `queueRequest`, and each answers alone. -/
theorem acquireFindsNoRoom : Obligations.AcquireFindsNoRoom := by
  intro p s a hreq e b need hpass hwait
  have hacquire := acquireLock_of_must_wait hpass hwait a.arg2
  refine ⟨_, exec_acquire_of_requests hreq, fun hzero => ?contended, fun hlimit hcap => ?portCap,
    fun hlimit hcap hpool => ?poolEmpty, fun hlimit hcap hpool hroom => ?inboxFull⟩
  case contended =>
    rw [if_pos hzero] at hacquire
    exact .of_refused hacquire p
  case portCap =>
    rw [if_neg hlimit, queueRequest_of_cap hcap] at hacquire
    exact .of_refused hacquire p
  case poolEmpty =>
    rw [if_neg hlimit, queueRequest_of_pool_empty hcap hpool] at hacquire
    exact .of_refused hacquire p
  case inboxFull =>
    have hfull := (freeRoom_lt_reservationsNeeded_iff s p e a.mode).2 hroom
    rw [if_neg hlimit, queueRequest_of_inbox_full (State.recordRefusal_eq_none hcap hpool) hfull] at hacquire
    exact .of_refused hacquire p

/-- Settles O26: the request reaches the last branch of `queueRequest`, whose state is `State.withWaiter`. -/
theorem acquireQueues : Obligations.AcquireQueues := by
  intro p s a hreq i e r b need hpass hwait hlimit hcap hpool hroom
  have hfits : ¬ s.freeRoom p < reservationsNeeded e a.mode :=
    (freeRoom_lt_reservationsNeeded_iff s p e a.mode).not.2 (not_lt.2 hroom)
  have hneed : reservationsNeeded e a.mode = need := reservationsNeeded_eq e a.mode
  refine ⟨_, exec_acquire_of_requests hreq, ?_⟩
  rw [acquireLock_of_must_wait hpass hwait, if_neg hlimit,
    queueRequest_of_room (State.recordRefusal_eq_none hcap hpool) hfits, hneed]
  exact ⟨rfl, .of_locks_eq rfl, .of_poolPorts_eq rfl, .of_inboxes_eq rfl, .of_answer rfl p _⟩

/-- Settles O28: the branches of `releaseLock_eq`; the two that end a hold end with an evaluation. -/
theorem releaseEndsHold : Obligations.ReleaseEndsHold := by
  intro p s a hreq i e r
  refine ⟨_, exec_release_of_requests hreq, ?_⟩
  rw [releaseLock_eq]
  split_ifs with hgen hfree hexclusive hshared
  case pos | pos | neg => exact .of_answer s p _
  case pos => exact ⟨_, .of_answer (State.endLease_units _ i p) i p _, State.setLock_endLease p rfl⟩
  case pos => exact ⟨_, .of_answer rfl i p _, rfl, .of_setLock s i _⟩

/-- Settles O29: the branches of `downgradeLock_eq`; the last one ends the exclusive hold and evaluates. -/
theorem downgradeSharesHold : Obligations.DowngradeSharesHold := by
  intro p s a hreq i e r
  refine ⟨_, exec_downgrade_of_requests hreq, ?_⟩
  rw [downgradeLock_eq]
  split_ifs with hgen hfree hholder hkind
  case pos | pos | pos | pos => exact .of_answer s p _
  case neg => exact ⟨_, .of_answer (State.endLease_units _ i p) i p _, State.setLock_endLease p rfl⟩

/-- Settles O31: a ticket of no record is not found; a ticket of one record finds it, and its wait ends. -/
theorem cancelEndsWait : Obligations.CancelEndsWait := by
  intro p s a hreq ticket
  refine ⟨fun hnone => ?_, ?_⟩
  · have hfind : s.findTicket p a.ticket = none := (s.findTicket_eq_none_iff p a.ticket).2 hnone
    exact ⟨_, exec_cancel_of_requests hreq, .of_refused (cancelWait_of_none hfind) p⟩
  · rintro i w hmem rfl hticket hunique
    have hfind : s.findTicket w.requester.port a.ticket = some (i, w) :=
      State.findTicket_of_unique hmem rfl hticket hunique
    refine ⟨_, _, exec_cancel_of_requests hreq, .of_discardRecord s i w, ?_⟩
    rw [cancelWait_of_some hfind, answerCancel, cancel_word_eq]
    exact .of_answer rfl i _ _
end

section
/-! PROOFS. RENEW, said once (chapter 3): a request whose port has departed, the handle word read back, the checks of RENEW
with the move behind them, and the command as a step of its owner. -/

namespace Sys2Proof.Machine

/-! ### A request whose port has departed (R36, R115) -/

theorem State.serve_of_departed {s : State} {p : Port} {c : Command} {a : Args} {d : Bool}
    (h : (s.unit p).inFlight = some ⟨c, a, .handed d⟩) (hdeparted : d = true ∨ (c ≠ .attach ∧ s.attached p = false))
    (owner : Port → Args → State → State × Answer) : s.serve p c owner = s.answer p (.bare .departed) := by
  simp only [State.serve, h, ne_eq, not_true_eq_false, if_false]
  exact if_pos hdeparted

/-! ### The handle word (R169) -/

/-- A field cut out of a word and put back in its place has the word's bits there, and 0 elsewhere. -/
theorem getLsbD_fieldAt_bitsOf (w : Word) {k : Nat} (hk : k < 16) (lo len : Nat) :
    (fieldAt (bitsOf w lo len) lo len).getLsbD k = (decide (lo ≤ k ∧ k - lo < len) && w.getLsbD k) := by
  simp only [fieldAt, bitsOf, BitVec.getLsbD_ofNat, Nat.testBit_shiftLeft, Nat.testBit_mod_two_pow, BitVec.testBit_toNat,
    BitVec.getLsbD_extractLsb', hk, decide_true, Bool.true_and]
  by_cases hlo : lo ≤ k
  · simp [hlo, Nat.add_sub_cancel' hlo, ← Bool.and_assoc]
  · simp [hlo]

/-- R169: index and generation fill the word between them. -/
theorem Handle.toWord_ofWord (w : Word) : (Handle.ofWord w).toWord = w := by
  have hindex : (Handle.ofWord w).index.val = bitsOf w 10 6 := Nat.mod_eq_of_lt (BitVec.isLt _)
  have hgeneration : (Handle.ofWord w).generation.toNat = bitsOf w 0 10 := rfl
  refine BitVec.eq_of_getLsbD_eq fun k hk => ?_
  rw [Handle.toWord, hindex, hgeneration, BitVec.getLsbD_or, getLsbD_fieldAt_bitsOf w hk,
    getLsbD_fieldAt_bitsOf w hk, ← Bool.and_or_distrib_right]
  have hcovered : (10 ≤ k ∧ k - 10 < 6) ∨ (0 ≤ k ∧ k - 0 < 10) := by omega
  rw [← Bool.decide_or, decide_eq_true hcovered, Bool.true_and]

/-- R70: the present handle of the lock a current handle names is the handle word that came in. -/
theorem State.handleOf_toWord {s : State} {a : Args} (h : a.handle.generation = (s.lock a.handle.index).generation) :
    (s.handleOf a.handle.index).toWord = a.arg0 := by
  rw [State.handleOf, ← h]
  exact Handle.toWord_ofWord a.arg0

/-! ### RENEW (R69, R70) -/

/-- R69's checks as one chain: handle validation (R7), holder, lease period; and R70's move behind them. -/
theorem renewLease_eq (r : Requester) (h : Handle) (s : State) :
    renewLease r h s =
      if h.generation ≠ (s.lock h.index).generation then (s, .bare .staleHandle)
      else if (s.lock h.index).state = .free then (s, .bare .notAllocated)
      else if (s.lock h.index).exclusiveHolder ≠ some r then (s, .bare .notHolder)
      else if (s.lock h.index).leasePeriod = 0 then (s, .bare .noLease)
      else
        (s.moveDeadline (.lease h.index) (s.after (s.lock h.index).leasePeriod),
          answerRenew (s.handleOf h.index) (s.after (s.lock h.index).leasePeriod)) := by
  rw [← s.elim_validateHandle h _ fun c => (s, Answer.bare c), renewLease]
  cases s.validateHandle h <;> rfl

theorem exec_renew_of_departed {s : State} {p : Port} {a : Args} {d : Bool}
    (h : (s.unit p).inFlight = some ⟨.renew, a, .handed d⟩) (hdeparted : d = true ∨ s.attached p = false) :
    exec (.renew p) s = .next (s.answer p (.bare .departed)) :=
  have hcause : d = true ∨ (Command.renew ≠ .attach ∧ s.attached p = false) := hdeparted.imp_right fun ha => ⟨nofun, ha⟩
  congrArg Host.Outcome.next (State.serve_of_departed h hcause fun q b => renewLease ⟨q, b.lockAgent⟩ b.handle)

theorem exec_renew_of_requests {s : State} {p : Port} {a : Args} (h : Requests s p .renew a) :
    exec (.renew p) s =
      .next ((renewLease ⟨p, a.lockAgent⟩ a.handle s).1.answer p (renewLease ⟨p, a.lockAgent⟩ a.handle s).2) :=
  congrArg Host.Outcome.next (State.serve_of_requests h fun q b => renewLease ⟨q, b.lockAgent⟩ b.handle)

end Sys2Proof.Machine
end

section
/-! PROOFS. The lock table's command on leases (chapter 3): RENEW. -/

open Sys2Proof Sys2Proof.Machine

/-- Settles O30: a departed port's request is answered before the owner's checks; the others take the branches of
`renewLease_eq`, and behind the last refusal the handle is current, so the word reported is the one that came in. -/
theorem renewMovesLease : Obligations.RenewMovesLease := by
  refine ⟨fun p s a d hflight hdeparted => ⟨_, exec_renew_of_departed hflight hdeparted, .of_answer s p _⟩, ?_⟩
  intro p s a hreq i e tick
  refine ⟨_, exec_renew_of_requests hreq, ?_⟩
  rw [renewLease_eq]
  split_ifs with hgen hfree hholder hlease
  case pos | pos | pos | pos => exact .of_answer s p _
  case neg =>
    rw [answerRenew, State.handleOf_toWord (not_not.1 hgen)]
    exact ⟨rfl, .of_answer rfl p _⟩
end

section
/-! PROOFS. POST, said once (chapter 4): when an inbox is full, the checks of POST with the delivery behind them, and the
command as a step of its owner. -/

namespace Sys2Proof.Machine

/-- R77: no free room is left where entries and reservations take all 16 places. -/
theorem State.freeRoom_eq_zero_iff (s : State) (p : Port) :
    s.freeRoom p = 0 ↔ 16 ≤ (s.inbox p).entries.length + (s.inbox p).reserved := by
  rw [← Nat.lt_one_iff, State.freeRoom, Inbox.freeRoom_lt_iff _ le_rfl, Nat.lt_add_one_iff]

/-- R91's checks on the target as one chain, in the counts of its inbox, and R92's delivery behind them. -/
theorem postNote_eq (p target : Port) (g n : Agent) (tag : BitVec 8) (data : BitVec 32) (s : State) :
    postNote p target g n tag data s =
      if s.attached target = false then (s, .bare .targetDetached)
      else if 16 ≤ (s.inbox target).entries.length + (s.inbox target).reserved then (s, .bare .targetFull)
      else (s.deliver target ⟨g, .note p n tag data⟩, answerGeneration (s.session target).generation) := by
  simp only [postNote, State.freeRoom_eq_zero_iff]

theorem OnlyInbox.of_deliver (s : State) (p : Port) (e : InboxEntry) :
    OnlyInbox p { s.inbox p with entries := (s.inbox p).entries ++ [e] } s (s.deliver p e) :=
  .of_inboxes_eq rfl

theorem exec_post_of_departed {s : State} {p : Port} {a : Args} {d : Bool}
    (h : (s.unit p).inFlight = some ⟨.post, a, .handed d⟩) (hdeparted : d = true ∨ s.attached p = false) :
    exec (.post p) s = .next (s.answer p (.bare .departed)) :=
  have hcause : d = true ∨ (Command.post ≠ .attach ∧ s.attached p = false) := hdeparted.imp_right fun ha => ⟨nofun, ha⟩
  congrArg Host.Outcome.next
    (State.serve_of_departed h hcause fun q b => postNote q b.target b.targetAgent b.senderAgent b.tag b.data)

theorem exec_post_of_requests {s : State} {p : Port} {a : Args} (h : Requests s p .post a) :
    exec (.post p) s =
      .next ((postNote p a.target a.targetAgent a.senderAgent a.tag a.data s).1.answer p
        (postNote p a.target a.targetAgent a.senderAgent a.tag a.data s).2) :=
  congrArg Host.Outcome.next
    (State.serve_of_requests h fun q b => postNote q b.target b.targetAgent b.senderAgent b.tag b.data)

end Sys2Proof.Machine
end

section
/-! PROOFS. The inbox unit's command (chapter 4): POST. -/

open Sys2Proof Sys2Proof.Machine

/-- Settles O34: a departed sender's request is answered before the owner's checks; the others take the branches of
`postNote_eq`, and behind the last refusal the note is delivered to the target's inbox. -/
theorem postDeliversNote : Obligations.PostDeliversNote := by
  refine ⟨fun p s a d hflight hdeparted => ⟨_, exec_post_of_departed hflight hdeparted, .of_answer s p _⟩, ?_⟩
  intro p s a hreq q b
  refine ⟨_, exec_post_of_requests hreq, ?_⟩
  rw [postNote_eq]
  split_ifs with hdetached hfull
  case pos | pos => exact .of_answer s p _
  case neg => exact ⟨rfl, .of_deliver s q _, .of_answer rfl p _⟩
end

section
/-! PROOFS. The barrier unit's commands, said once (chapter 5): the result words, the deliveries of an opening and of a
break, each command's checks with its effect behind them, and each command as a step of its owner. -/

namespace Sys2Proof.Machine

theorem OnlyBarrier.of_setBarrier (s : State) (b : BarrierIndex) (x : Barrier) : OnlyBarrier b x s (s.setBarrier b x) :=
  ⟨s.setBarrier_barrier_self b x, fun c hc => s.setBarrier_barrier_ne b x c hc⟩

/-! ### Result words (R172) -/

/-- A field at bit 0 and one right above it do not overlap, so the word is their sum. -/
theorem fieldAt_or_fieldAt {low high k len : Nat} (hlow : low < 2 ^ k) (hhigh : high < 2 ^ len) :
    fieldAt low 0 k ||| fieldAt high k len = BitVec.ofNat 16 (low + 2 ^ k * high) := by
  rw [fieldAt, fieldAt, Nat.mod_eq_of_lt hlow, Nat.mod_eq_of_lt hhigh, Nat.shiftLeft_zero, Nat.shiftLeft_eq, mul_comm,
    ← BitVec.ofNat_or, Nat.or_comm, ← Nat.two_pow_add_eq_or_of_lt hlow, add_comm]

theorem BarrierState.code_lt (x : BarrierState) : x.code < 2 ^ 2 := by cases x <;> decide

theorem answerJoin_eq (x : Barrier) :
    answerJoin x = ⟨.ok, BitVec.ofNat 16 (x.phase.toNat + 256 * x.state.code), 0, 0⟩ := by
  rw [answerJoin, fieldAt_or_fieldAt x.phase.isLt x.state.code_lt]
  rfl

theorem answerLeave_opened (phase : BitVec 8) :
    answerLeave phase true = ⟨.ok, BitVec.ofNat 16 (phase.toNat + 256), 0, 0⟩ := by
  rw [answerLeave, fieldAt_or_fieldAt phase.isLt (by decide)]
  rfl

theorem answerLeave_not_opened (phase : BitVec 8) : answerLeave phase false = answerPhase .ok phase := by
  rw [answerLeave, fieldAt_or_fieldAt phase.isLt (by decide), answerPhase, ← BitVec.ofNat_toNat]
  rfl

/-- R107: the counts of a barrier are within their fields. -/
theorem answerBarrierQuery_eq {x : Barrier} (hmembers : x.members.length ≤ 8) (harrived : x.arrived.length ≤ 7) :
    answerBarrierQuery x =
      ⟨.ok, BitVec.ofNat 16 (x.phase.toNat + 256 * x.state.code),
        BitVec.ofNat 16 (x.members.length + 16 * x.arrived.length), 0⟩ := by
  rw [answerBarrierQuery, fieldAt_or_fieldAt x.phase.isLt x.state.code_lt,
    fieldAt_or_fieldAt (hmembers.trans_lt (by decide)) (harrived.trans_lt (by decide))]
  rfl

/-! ### Deliveries (R79, R81, R97) -/

/-- At its own port a reserved delivery takes the reservation away, and the entry stands at the tail if the port is
ATTACHED. -/
theorem State.deliverReserved_inbox_self (s : State) (p : Port) (e : InboxEntry) :
    (s.deliverReserved p e).inbox p =
      ⟨(s.inbox p).entries ++ (if s.attached p then [e] else []), (s.inbox p).reserved - 1⟩ := by
  unfold State.deliverReserved
  split_ifs <;> simp [State.deliver, State.dropReservations]

theorem State.deliverReserved_inbox_ne (s : State) (p : Port) (e : InboxEntry) {q : Port} (h : q ≠ p) :
    (s.deliverReserved p e).inbox q = s.inbox q := by
  unfold State.deliverReserved
  split_ifs <;> simp [State.deliver, State.dropReservations, h]

/-- Induction on the receivers: the first delivery is one step, the others start from the inboxes it leaves. -/
theorem DeliveredTo.of_deliverToAll (body : EntryBody) (rs : List Requester) (s : State) :
    DeliveredTo body rs s (s.deliverToAll body rs) := by
  induction rs generalizing s with
  | nil => intro q; simp [State.deliverToAll]
  | cons r rs ih =>
    intro q
    have hrest := ih (s.deliverReserved r.port ⟨r.agent, body⟩) q
    rw [State.deliverReserved_attached] at hrest
    refine hrest.trans ?_
    by_cases hport : q = r.port
    · subst hport
      rw [State.deliverReserved_inbox_self]
      split_ifs <;> simp [Nat.sub_sub, Nat.add_comm]
    · rw [State.deliverReserved_inbox_ne s r.port _ hport]
      simp [Ne.symm hport]

/-- From `s` to `t`, nothing has changed but command units, barriers and inboxes. -/
def BarrierUnitOnly (s t : State) : Prop :=
  t = { s with units := t.units, barriers := t.barriers, inboxes := t.inboxes }

theorem BarrierUnitOnly.refl (s : State) : BarrierUnitOnly s s := rfl

theorem BarrierUnitOnly.answer {s t : State} (h : BarrierUnitOnly s t) (p : Port) (a : Answer) :
    BarrierUnitOnly s (t.answer p a) :=
  congrArg (State.answer · p a) h

theorem BarrierUnitOnly.setBarrier {s t : State} (h : BarrierUnitOnly s t) (b : BarrierIndex) (x : Barrier) :
    BarrierUnitOnly s (t.setBarrier b x) :=
  congrArg (State.setBarrier · b x) h

theorem BarrierUnitOnly.deliverReserved {s t : State} (h : BarrierUnitOnly s t) (p : Port) (e : InboxEntry) :
    BarrierUnitOnly s (t.deliverReserved p e) := by
  unfold State.deliverReserved
  split_ifs
  case pos => exact congrArg (fun u => (u.dropReservations p 1).deliver p e) h
  case neg => exact congrArg (State.dropReservations · p 1) h

theorem BarrierUnitOnly.deliverToAll {s t : State} (h : BarrierUnitOnly s t) (body : EntryBody) (rs : List Requester) :
    BarrierUnitOnly s (t.deliverToAll body rs) :=
  State.deliverToAll_keeps body rs t h fun _ p e hu => hu.deliverReserved p e

theorem BarrierUnitOnly.openBarrier {s t : State} (h : BarrierUnitOnly s t) (b : BarrierIndex) :
    BarrierUnitOnly s (t.openBarrier b) :=
  (h.setBarrier b _).deliverToAll _ _

theorem BarrierUnitOnly.breakRound {s t : State} (h : BarrierUnitOnly s t) (b : BarrierIndex) (c : Port) :
    BarrierUnitOnly s (t.breakRound b c) :=
  (h.setBarrier b _).deliverToAll _ _

/-! ### Opening and breaking (R100, R104) -/

/-- R100: an opening behind the rewriting of the barrier's entry, as one event from the state before both. -/
theorem OpenedFrom.of_openBarrier (s : State) (b : BarrierIndex) (x : Barrier) :
    OpenedFrom b x s ((s.setBarrier b x).openBarrier b) := by
  refine ⟨⟨?_, fun c hc => ?_⟩, ?_⟩
  · rw [State.openBarrier_barrier, if_pos rfl, State.setBarrier_barrier_self]
  · rw [State.openBarrier_barrier, if_neg hc, State.setBarrier_barrier_ne s b x c hc]
  · rw [State.openBarrier, State.setBarrier_barrier_self]
    exact .of_deliverToAll _ _ _

theorem BrokenFrom.of_breakRound (s : State) (b : BarrierIndex) (c : Port) :
    BrokenFrom b (s.barrier b) c s (s.breakRound b c) := by
  refine ⟨⟨?_, fun k hk => ?_⟩, .of_deliverToAll _ _ _⟩
  · simp only [State.breakRound_barrier, if_true, List.isEmpty_iff]
  · rw [State.breakRound_barrier, if_neg hk]

/-- R104: with a member left the barrier ends BROKEN. -/
theorem BrokenFrom.state_eq_broken {b : BarrierIndex} {x : Barrier} {c : Port} {s t : State}
    (h : BrokenFrom b x c s t) (hmembers : x.members ≠ []) : (t.barrier b).state = .broken := by
  obtain ⟨⟨hbarrier, -⟩, -⟩ := h
  rw [hbarrier]
  exact if_neg hmembers

/-! ### The commands behind their checks (R98, R99, R103, R105 to R107) -/

theorem Barrier.complete_iff (x : Barrier) :
    x.complete = true ↔ x.arrived ≠ [] ∧ ∀ m ∈ x.members, m ∈ x.arrived := by
  simp [Barrier.complete]

theorem joinBarrier_eq (r : Requester) (b : BarrierIndex) (s : State) :
    joinBarrier r b s =
      if r ∈ (s.barrier b).members then (s, .bare .alreadyMember)
      else if 8 ≤ (s.barrier b).members.length then (s, .bare .barrierFull)
      else
        (s.setBarrier b { s.barrier b with members := (s.barrier b).members ++ [r] },
          ⟨.ok, BitVec.ofNat 16 ((s.barrier b).phase.toNat + 256 * (s.barrier b).state.code), 0, 0⟩) := by
  rw [← answerJoin_eq]
  rfl

theorem leaveBarrier_eq (r : Requester) (b : BarrierIndex) (s : State) :
    leaveBarrier r b s =
      if r ∉ (s.barrier b).members then (s, .bare .notMember)
      else if r ∈ (s.barrier b).arrived then (s, .bare .arrived)
      else if (s.barrier b).arrived ≠ [] ∧ ∀ m ∈ (s.barrier b).members.erase r, m ∈ (s.barrier b).arrived then
        ((s.setBarrier b { s.barrier b with members := (s.barrier b).members.erase r }).openBarrier b,
          ⟨.ok, BitVec.ofNat 16 (((s.barrier b).phase + 1).toNat + 256), 0, 0⟩)
      else
        (s.setBarrier b
            { s.barrier b with
              members := (s.barrier b).members.erase r
              state := if (s.barrier b).members.erase r = [] then .idle else (s.barrier b).state },
          answerPhase .ok (s.barrier b).phase) := by
  simp only [leaveBarrier, Barrier.complete_iff, List.isEmpty_iff, answerLeave_opened, answerLeave_not_opened]

theorem withdrawBarrier_eq (r : Requester) (b : BarrierIndex) (s : State) :
    withdrawBarrier r b s =
      if r ∉ (s.barrier b).members then (s, .bare .notMember)
      else if r ∉ (s.barrier b).arrived then (s, .bare .notArrived)
      else
        ((s.setBarrier b
            { s.barrier b with
              arrived := (s.barrier b).arrived.erase r
              state := if (s.barrier b).arrived.erase r = [] then .idle else .gathering }).dropReservations r.port 1,
          answerPhase .ok (s.barrier b).phase) := by
  simp only [withdrawBarrier, List.isEmpty_iff]

theorem breakBarrier_of_not_member {r : Requester} {b : BarrierIndex} {s : State} (h : r ∉ (s.barrier b).members) :
    breakBarrier r b s = (s, .bare .notMember) :=
  if_pos h

/-- R105's table for a member. -/
theorem breakBarrier_of_member {r : Requester} {b : BarrierIndex} {s : State} (h : r ∈ (s.barrier b).members) :
    breakBarrier r b s =
      match (s.barrier b).state with
      | .gathering => (s.breakRound b r.port, answerPhase .ok ((s.barrier b).phase + 1))
      | .idle => (s.setBarrier b { s.barrier b with state := .broken }, answerPhase .ok (s.barrier b).phase)
      | .broken => (s, answerPhase .ok (s.barrier b).phase) :=
  if_neg (not_not.2 h)

theorem rearmBarrier_eq (r : Requester) (b : BarrierIndex) (s : State) :
    rearmBarrier r b s =
      if r ∉ (s.barrier b).members then (s, .bare .notMember)
      else if (s.barrier b).state ≠ .broken then (s, .bare .wrongState)
      else (s.setBarrier b { s.barrier b with state := .idle }, answerPhase .ok (s.barrier b).phase) :=
  rfl

/-! ### The commands as steps -/

theorem exec_join_of_requests {s : State} {p : Port} {a : Args} (h : Requests s p .join a) :
    exec (.join p) s =
      .next ((joinBarrier ⟨p, a.barrierAgent⟩ a.barrier s).1.answer p (joinBarrier ⟨p, a.barrierAgent⟩ a.barrier s).2) :=
  congrArg Host.Outcome.next (State.serve_of_requests h fun q b => joinBarrier ⟨q, b.barrierAgent⟩ b.barrier)

theorem exec_leave_of_requests {s : State} {p : Port} {a : Args} (h : Requests s p .leave a) :
    exec (.leave p) s =
      .next ((leaveBarrier ⟨p, a.barrierAgent⟩ a.barrier s).1.answer p
        (leaveBarrier ⟨p, a.barrierAgent⟩ a.barrier s).2) :=
  congrArg Host.Outcome.next (State.serve_of_requests h fun q b => leaveBarrier ⟨q, b.barrierAgent⟩ b.barrier)

theorem exec_withdraw_of_requests {s : State} {p : Port} {a : Args} (h : Requests s p .withdraw a) :
    exec (.withdraw p) s =
      .next ((withdrawBarrier ⟨p, a.barrierAgent⟩ a.barrier s).1.answer p
        (withdrawBarrier ⟨p, a.barrierAgent⟩ a.barrier s).2) :=
  congrArg Host.Outcome.next (State.serve_of_requests h fun q b => withdrawBarrier ⟨q, b.barrierAgent⟩ b.barrier)

theorem exec_breakBarrier_of_requests {s : State} {p : Port} {a : Args} (h : Requests s p .breakBarrier a) :
    exec (.breakBarrier p) s =
      .next ((breakBarrier ⟨p, a.barrierAgent⟩ a.barrier s).1.answer p
        (breakBarrier ⟨p, a.barrierAgent⟩ a.barrier s).2) :=
  congrArg Host.Outcome.next (State.serve_of_requests h fun q b => breakBarrier ⟨q, b.barrierAgent⟩ b.barrier)

theorem exec_rearm_of_requests {s : State} {p : Port} {a : Args} (h : Requests s p .rearm a) :
    exec (.rearm p) s =
      .next ((rearmBarrier ⟨p, a.barrierAgent⟩ a.barrier s).1.answer p
        (rearmBarrier ⟨p, a.barrierAgent⟩ a.barrier s).2) :=
  congrArg Host.Outcome.next (State.serve_of_requests h fun q b => rearmBarrier ⟨q, b.barrierAgent⟩ b.barrier)

theorem exec_barrierQuery_of_requests {s : State} {p : Port} {a : Args} (h : Requests s p .barrierQuery a) :
    exec (.barrierQuery p) s = .next (s.answer p (answerBarrierQuery (s.barrier a.barrier))) :=
  congrArg Host.Outcome.next (State.serve_of_requests h fun _ b t => (t, answerBarrierQuery (t.barrier b.barrier)))

end Sys2Proof.Machine
end

section
/-! PROOFS. The barrier unit's commands (chapter 5): JOIN, LEAVE, WITHDRAW, BREAK, REARM and BARRIER_QUERY. -/

open Sys2Proof Sys2Proof.Machine

/-- Settles O35: the branches of `joinBarrier_eq`; the last one rewrites the barrier's entry and nothing else. -/
theorem joinAppendsMember : Obligations.JoinAppendsMember := by
  intro p s a hreq r x
  refine ⟨_, exec_join_of_requests hreq, ?_⟩
  rw [joinBarrier_eq]
  split_ifs with hmember hfull
  case pos | pos => exact .of_answer s p _
  case neg => exact ⟨rfl, .of_setBarrier s a.barrier _, .of_answer rfl p _⟩

/-- Settles O36: the branches of `leaveBarrier_eq`; where the arrived set is complete the barrier opens, from the entry
without the requester. -/
theorem leaveRemovesMember : Obligations.LeaveRemovesMember := by
  intro p s a hreq r x y
  refine ⟨_, exec_leave_of_requests hreq, ?_⟩
  rw [leaveBarrier_eq]
  split_ifs with hmember harrived hcomplete hlast
  · -- ARRIVED
    exact .of_answer s p _
  · -- the barrier opens
    have hframe := ((BarrierUnitOnly.refl s).setBarrier a.barrier y).openBarrier a.barrier
    exact ⟨hframe.answer p _, .of_openBarrier s a.barrier y, .of_answer (State.openBarrier_units _ a.barrier) p _⟩
  · -- no member is left
    exact ⟨rfl, .of_setBarrier s a.barrier _, .of_answer rfl p _⟩
  · -- members are left, and the barrier does not open
    exact ⟨rfl, .of_setBarrier s a.barrier _, .of_answer rfl p _⟩
  · -- NOT_MEMBER
    exact .of_answer s p _

/-- Settles O38: the branches of `withdrawBarrier_eq`; behind the checks one barrier and one inbox change. -/
theorem withdrawDropsArrival : Obligations.WithdrawDropsArrival := by
  intro p s a hreq r x rest
  refine ⟨_, exec_withdraw_of_requests hreq, ?_⟩
  rw [withdrawBarrier_eq]
  split_ifs with hmember harrived hlast
  case pos | neg => exact ⟨rfl, .of_setBarrier s a.barrier _, .of_inboxes_eq rfl, .of_answer rfl p _⟩
  case neg | neg => exact .of_answer s p _

/-- Settles O39: a BREAK by a member goes by the state of the barrier; the member list holds the requester, so a round that
breaks ends BROKEN. -/
theorem breakEndsRound : Obligations.BreakEndsRound := by
  intro p s a hreq r x
  refine ⟨_, exec_breakBarrier_of_requests hreq, ?_⟩
  split_ifs with hmember
  case neg => exact .of_refused (breakBarrier_of_not_member hmember) p
  case pos =>
    rw [breakBarrier_of_member hmember]
    cases hstate : x.state with
    | gathering =>
      have hbroken := BrokenFrom.of_breakRound s a.barrier p
      have hends := hbroken.state_eq_broken (List.ne_nil_of_mem hmember)
      have hframe := (BarrierUnitOnly.refl s).breakRound a.barrier p
      exact ⟨hends, hframe.answer p _, hbroken, .of_answer (State.breakRound_units s a.barrier p) p _⟩
    | idle =>
      have hends := congrArg Barrier.state (s.setBarrier_barrier_self a.barrier { x with state := .broken })
      exact ⟨hends, rfl, .of_setBarrier s a.barrier _, .of_answer rfl p _⟩
    | broken => exact ⟨hstate, .of_answer s p _⟩

/-- Settles O40: REARM takes the branches of `rearmBarrier_eq`; BARRIER_QUERY only answers. -/
theorem rearmAndBarrierQuery : Obligations.RearmAndBarrierQuery := by
  refine ⟨?_, ?_⟩
  · intro p s a hreq r x
    refine ⟨_, exec_rearm_of_requests hreq, ?_⟩
    rw [rearmBarrier_eq]
    split_ifs with hmember hbroken
    · -- WRONG_STATE
      exact .of_answer s p _
    · -- BROKEN becomes IDLE
      exact ⟨rfl, .of_setBarrier s a.barrier _, .of_answer rfl p _⟩
    · -- NOT_MEMBER
      exact .of_answer s p _
  · intro p s a hreq x hmembers harrived
    refine ⟨_, exec_barrierQuery_of_requests hreq, ?_⟩
    rw [answerBarrierQuery_eq hmembers harrived]
    exact .of_answer s p _
end

section
/-! PROOFS. Each row as an event of its block, said once: a request taken by its owner, a write to a word of the window, and
the rows the state decides by its sweep position or by the head of its deadline list. -/

namespace Sys2Proof.Machine

/-! ### Requests (R153) -/

/-- How the owner of command `k` decides a request. -/
def Command.owner : Command → Port → Args → State → State × Answer
  | .attach => fun p _ => attachPort p
  | .detach => fun p _ => detachPort p
  | .touch => fun p _ => touchPort p
  | .forceDetach => fun _ a => forceDetachPort a.target
  | .alloc => fun p a => allocLock p a.allocKind a.lease
  | .retire => fun p a => retireLock p a.handle
  | .defineFixed => fun _ a => defineFixedLock a.fixedIndex a.fixedKind a.lease
  | .query => fun _ a => queryLock a.handle
  | .acquire => fun p a => acquireLock ⟨p, a.lockAgent⟩ a.handle a.mode a.waitLimit
  | .release => fun p a => releaseLock ⟨p, a.lockAgent⟩ a.handle
  | .downgrade => fun p a => downgradeLock ⟨p, a.lockAgent⟩ a.handle
  | .renew => fun p a => renewLease ⟨p, a.lockAgent⟩ a.handle
  | .cancel => fun p a => cancelWait p a.ticket
  | .post => fun p a => postNote p a.target a.targetAgent a.senderAgent a.tag a.data
  | .join => fun p a => joinBarrier ⟨p, a.barrierAgent⟩ a.barrier
  | .leave => fun p a => leaveBarrier ⟨p, a.barrierAgent⟩ a.barrier
  | .arrive => fun p a => arriveBarrier ⟨p, a.barrierAgent⟩ a.barrier
  | .withdraw => fun p a => withdrawBarrier ⟨p, a.barrierAgent⟩ a.barrier
  | .breakBarrier => fun p a => Machine.breakBarrier ⟨p, a.barrierAgent⟩ a.barrier
  | .rearm => fun p a => rearmBarrier ⟨p, a.barrierAgent⟩ a.barrier
  | .barrierQuery => fun _ a s => (s, answerBarrierQuery (s.barrier a.barrier))

theorem exec_request (k : Command) (p : Port) (s : State) : exec (k.request p) s = .next (s.serve p k k.owner) := by
  cases k <;> rfl

theorem exec_request_of_requests {k : Command} {p : Port} {s : State} {a : Args} (h : Requests s p k a) :
    exec (k.request p) s = .next ((k.owner p a s).1.answer p (k.owner p a s).2) := by
  rw [exec_request, State.serve_of_requests h]

theorem exec_request_of_departed {k : Command} {p : Port} {s : State} {a : Args} {d : Bool}
    (h : (s.unit p).inFlight = some ⟨k, a, .handed d⟩) (hdeparted : d = true ∨ (k ≠ .attach ∧ s.attached p = false)) :
    exec (k.request p) s = .next (s.answer p (.bare .departed)) := by
  rw [exec_request, State.serve_of_departed h hdeparted]

/-- ATTACH is the one request whose port need not be ATTACHED. -/
theorem exec_attach_of_handed {p : Port} {s : State} {a : Args}
    (h : (s.unit p).inFlight = some ⟨.attach, a, .handed false⟩) :
    exec (.attach p) s = .next ((attachPort p s).1.answer p (attachPort p s).2) := by
  rw [show exec (.attach p) s = _ from exec_request .attach p s, State.serve, h]
  simp only [ne_eq, not_true_eq_false, if_false, Bool.false_eq_true, false_and, or_self]
  rfl

theorem State.serve_of_not_handed {s : State} {p : Port} {k : Command}
    (h : ∀ a d, (s.unit p).inFlight ≠ some ⟨k, a, .handed d⟩) (owner : Port → Args → State → State × Answer) :
    s.serve p k owner = s := by
  unfold State.serve
  split
  case h_1 k' a d hflight =>
    have hother : k' ≠ k := fun hk => h a d (by rw [hflight, hk])
    exact if_pos hother
  case h_2 => rfl

/-! ### Writes to the window (R126, R163, R165) -/

/-- The port, the offset and the word of the bus write a row is; a row of its own is the write at that word's offset. -/
def busWrite : Instr → Option (Port × Offset × Word)
  | .cmdWrite p v | .overrun p v => some (p, 0x06, v)
  | .pop p v => some (p, 0x11, v)
  | .summaryClear p v => some (p, 0x12, v)
  | .ienWrite p v => some (p, 0x13, v)
  | .istatClear p v => some (p, 0x14, v)
  | .keepaliveIntervalWrite p v => some (p, 0x15, v)
  | .waiterCapWrite p v => some (p, 0x16, v)
  | .softReset p v => some (p, 0x17, v)
  | .prescaleWrite p v => some (p, 0x1A, v)
  | .registerWrite p off v => some (p, off, v)
  | _ => none

theorem exec_of_busWrite {c : Instr} {p : Port} {off : Offset} {v : Word} (h : busWrite c = some (p, off, v)) (s : State) :
    exec c s = .next (s.onWrite p fun t => t.writeWindow p off v) := by
  cases c
  case cmdWrite | overrun | pop | summaryClear | ienWrite | istatClear | keepaliveIntervalWrite | waiterCapWrite
      | softReset | prescaleWrite | registerWrite => cases h; rfl
  all_goals cases h

theorem State.takesBus_iff (s : State) (p : Port) : s.takesBus p = true ↔ s.resetLow = false ∧ s.held p = false := by
  simp [State.takesBus]

/-- A write of a port that answers has its word's effect. -/
theorem exec_of_busWrite_taken {c : Instr} {p : Port} {off : Offset} {v : Word} {s : State}
    (h : busWrite c = some (p, off, v)) (hreset : s.resetLow = false) (hheld : s.held p = false) :
    exec c s = .next (s.writeWindow p off v) := by
  rw [exec_of_busWrite h, State.onWrite, if_pos ((s.takesBus_iff p).2 ⟨hreset, hheld⟩)]

/-- A write of a port that is held in reset is ignored. -/
theorem exec_of_busWrite_ignored {c : Instr} {p : Port} {off : Offset} {v : Word} {s : State}
    (h : busWrite c = some (p, off, v)) (hheld : s.resetLow = true ∨ s.held p = true) : exec c s = .next s := by
  have hbus : ¬ s.takesBus p = true := by
    rw [State.takesBus_iff]
    rintro ⟨hreset, hport⟩
    simp [hreset, hport] at hheld
  rw [exec_of_busWrite h, State.onWrite, if_neg hbus]

/-! ### Expiries and visits (R61, R132) -/

theorem exec_waitExpiry_of_due {s : State} {i : LockIndex} {r : Requester} {k : Ticks} {rest : List Deadline}
    (h : s.deadlines = ⟨.wait i r, k, true⟩ :: rest) :
    exec .waitExpiry s = .next (s.dropHeadDeadline.expireWait i r) := by
  change execWaitExpiry s = _
  simp [execWaitExpiry, State.dueHead, h]

theorem exec_leaseExpiry_of_due {s : State} {i : LockIndex} {k : Ticks} {rest : List Deadline}
    (h : s.deadlines = ⟨.lease i, k, true⟩ :: rest) :
    exec .leaseExpiry s = .next (s.dropHeadDeadline.expireLease i) := by
  change execLeaseExpiry s = _
  simp [execLeaseExpiry, State.dueHead, h]

theorem exec_keepaliveExpiry_of_due {s : State} {p : Port} {k : Ticks} {rest : List Deadline}
    (h : s.deadlines = ⟨.keepalive p, k, true⟩ :: rest) :
    exec .keepaliveExpiry s = .next (s.dropHeadDeadline.expireKeepalive p) := by
  change execKeepaliveExpiry s = _
  simp [execKeepaliveExpiry, State.dueHead, h]

theorem State.dropHeadDeadline_eq {s : State} {d : Deadline} {rest : List Deadline} (h : s.deadlines = d :: rest) :
    s.dropHeadDeadline = { s with deadlines := rest } := by
  simp [State.dropHeadDeadline, h]

/-- A head that is due is an entry of the list with its mark set. -/
theorem State.deadlines_of_dueHead {s : State} {o : DeadlineObject} (h : s.dueHead = some o) :
    ∃ k rest, s.deadlines = ⟨o, k, true⟩ :: rest := by
  unfold State.dueHead at h
  split at h
  case h_1 => exact nomatch h
  case h_2 d rest hlist =>
    split at h
    case isTrue hdue =>
      obtain ⟨o', k, due⟩ := d
      cases h
      cases hdue
      exact ⟨k, rest, hlist⟩
    case isFalse => exact nomatch h

theorem exec_lockVisit_of_busy {s : State} {p : Port} {i : LockIndex} (h : s.engine = .busy p (.locks i)) :
    exec .lockVisit s = .next { s.visitLock p i with engine := .busy p (Position.locks i).next } := by
  change execLockVisit s = _
  simp [execLockVisit, h]

theorem exec_barrierVisit_of_busy {s : State} {p : Port} {b : BarrierIndex} (h : s.engine = .busy p (.barriers b)) :
    exec .barrierVisit s = .next { s.visitBarrier p b with engine := .busy p (Position.barriers b).next } := by
  change execBarrierVisit s = _
  simp [execBarrierVisit, h]

theorem exec_finalStep_of_busy {s : State} {p : Port} (h : s.engine = .busy p .final) :
    exec .finalStep s = .next (s.reportSweepEnd p).nextSweep := by
  change execFinalStep s = _
  simp [execFinalStep, h]

theorem exec_waitExpiry_of_not_due {s : State} (h : ∀ i r k rest, s.deadlines ≠ ⟨.wait i r, k, true⟩ :: rest) :
    exec .waitExpiry s = .next s := by
  change execWaitExpiry s = _
  unfold execWaitExpiry
  split
  case h_1 i r hhead =>
    obtain ⟨k, rest, hlist⟩ := State.deadlines_of_dueHead hhead
    exact absurd hlist (h i r k rest)
  case h_2 => rfl

theorem exec_leaseExpiry_of_not_due {s : State} (h : ∀ i k rest, s.deadlines ≠ ⟨.lease i, k, true⟩ :: rest) :
    exec .leaseExpiry s = .next s := by
  change execLeaseExpiry s = _
  unfold execLeaseExpiry
  split
  case h_1 i hhead =>
    obtain ⟨k, rest, hlist⟩ := State.deadlines_of_dueHead hhead
    exact absurd hlist (h i k rest)
  case h_2 => rfl

theorem exec_keepaliveExpiry_of_not_due {s : State} (h : ∀ p k rest, s.deadlines ≠ ⟨.keepalive p, k, true⟩ :: rest) :
    exec .keepaliveExpiry s = .next s := by
  change execKeepaliveExpiry s = _
  unfold execKeepaliveExpiry
  split
  case h_1 p hhead =>
    obtain ⟨k, rest, hlist⟩ := State.deadlines_of_dueHead hhead
    exact absurd hlist (h p k rest)
  case h_2 => rfl

theorem exec_lockVisit_of_elsewhere {s : State} (h : ∀ p i, s.engine ≠ .busy p (.locks i)) :
    exec .lockVisit s = .next s := by
  change execLockVisit s = _
  unfold execLockVisit
  split
  case h_1 p i hengine => exact absurd hengine (h p i)
  case h_2 => rfl

theorem exec_barrierVisit_of_elsewhere {s : State} (h : ∀ p b, s.engine ≠ .busy p (.barriers b)) :
    exec .barrierVisit s = .next s := by
  change execBarrierVisit s = _
  unfold execBarrierVisit
  split
  case h_1 p b hengine => exact absurd hengine (h p b)
  case h_2 => rfl

theorem exec_finalStep_of_elsewhere {s : State} (h : ∀ p, s.engine ≠ .busy p .final) :
    exec .finalStep s = .next s := by
  change execFinalStep s = _
  unfold execFinalStep
  split
  case h_1 p hengine => exact absurd hengine (h p)
  case h_2 => rfl

/-! ### Completion (R154) -/

theorem exec_completion_of_answered {s : State} {p : Port} {c : Command} {a : Args} {r : Answer}
    (h : (s.unit p).inFlight = some ⟨c, a, .answered r⟩) :
    exec (.completion p) s = .next (s.setUnit p ((s.unit p).complete r)) := by
  change execCompletion p s = _
  simp [execCompletion, h]

theorem exec_completion_of_not_answered {s : State} {p : Port}
    (h : ∀ c a r, (s.unit p).inFlight ≠ some ⟨c, a, .answered r⟩) : exec (.completion p) s = .next s := by
  change execCompletion p s = _
  unfold execCompletion
  split
  case h_1 c a r hflight => exact absurd hflight (h c a r)
  case h_2 => rfl

end Sys2Proof.Machine
end

section
/-! PROOFS. The step, and what an event does for which the state holds nothing. -/

open Sys2Proof Sys2Proof.Machine

/-- Settles O1: `step` looks at the front of the queue and nothing else. -/
theorem stepRunsFrontCommand : Obligations.StepRunsFrontCommand := by
  refine ⟨fun c rest s hpending => ?_, fun s hpending => ?_⟩
  · simp only [step, hpending]
  · simp only [step, hpending]

/-- Settles O3: each event has a lemma that says when it finds nothing to take. -/
theorem nothingToTakeChangesNothing : Obligations.NothingToTakeChangesNothing := by
  intro s
  refine ⟨fun c p h => ?_, fun p h => exec_completion_of_not_answered h, exec_waitExpiry_of_not_due,
    exec_leaseExpiry_of_not_due, exec_keepaliveExpiry_of_not_due, exec_lockVisit_of_elsewhere,
    exec_barrierVisit_of_elsewhere, exec_finalStep_of_elsewhere⟩
  rw [exec_request, State.serve_of_not_handed h]
end

section
/-! PROOFS. The windows and the command units, said once (chapters 8 and 9): one rewritten part among others, the common
checks, and what a write does at the offset of each word. -/

namespace Sys2Proof.Machine

/-! ### One rewritten part -/

theorem OnlyInterface.of_setInterface (s : State) (p : Port) (x : PortInterface) :
    OnlyInterface p x s (s.setInterface p x) :=
  ⟨s.setInterface_interface_self p x, s.setInterface_interface_ne p x⟩

theorem OnlyUnit.of_units_eq {s t : State} {p : Port} {x : CommandUnit} (h : t.units = (s.setUnit p x).units) :
    OnlyUnit p x s t := by
  have hunit : ∀ k, t.unit k = (s.setUnit p x).unit k := fun k => by simp only [State.unit, h]
  exact ⟨(hunit p).trans (s.setUnit_unit_self p x), fun q hq => (hunit q).trans (s.setUnit_unit_ne p x q hq)⟩

theorem OnlySession.of_sessions_eq {s t : State} {p : Port} {x : Session}
    (h : t.sessions = (s.setSession p x).sessions) : OnlySession p x s t := by
  have hsession : ∀ k, t.session k = (s.setSession p x).session k := fun k => by simp only [State.session, h]
  exact ⟨(hsession p).trans (s.setSession_session_self p x),
    fun q hq => (hsession q).trans (s.setSession_session_ne p x q hq)⟩

/-- The PRSTn pins after an edge at one port. -/
theorem State.setHeld_levels (s : State) (p : Port) (low : Bool) :
    (s.setHeld p low).held p = low ∧ ∀ q : Port, q ≠ p → (s.setHeld p low).held q = s.held q :=
  ⟨s.setHeld_held_self p low, s.setHeld_held_ne p low⟩

/-! ### Writes by their offset (R164, R165) -/

/-- A write at an offset that no rule gives an effect is ignored. -/
theorem State.writeWindow_of_plain (s : State) (p : Port) {off : Offset} (hplain : off.plain = true)
    (hargs : off.val ∉ [2, 3, 4, 5]) (v : Word) : s.writeWindow p off v = s := by
  unfold State.writeWindow
  split
  case h_14 => rfl
  all_goals
    rename_i hoff
    simp [Offset.plain, hoff] at hplain hargs

/-- R150: with a command in flight a write to CMD sets the overrun flag. -/
theorem State.writeCmd_of_busy {s : State} {p : Port} (h : (s.unit p).inFlight ≠ none) (v : Word) :
    s.writeCmd p v = s.setUnit p { s.unit p with overrun := true } :=
  if_pos (Option.isSome_iff_ne_none.2 h)

theorem State.writeCmd_of_not_busy {s : State} {p : Port} (h : (s.unit p).inFlight = none) (v : Word) :
    s.writeCmd p v = s.takeCommand p v := by
  simp [State.writeCmd, CommandUnit.busy, h]

/-! ### The take of a command (R149, R152) -/

theorem State.renewKeepalive_eq (s : State) (p : Port) :
    s.renewKeepalive p = { s with deadlines := s.renewedDeadlines p } := by
  unfold State.renewKeepalive State.renewedDeadlines
  simp only [Bool.and_eq_true, bne_iff_ne]
  split_ifs <;> rfl

theorem Command.supervisorOnly_iff (c : Command) : c.supervisorOnly = true ↔ c = .forceDetach ∨ c = .defineFixed := by
  cases c <;> decide

/-- The command unit after a take, by the outcome of the common checks: the command in flight, or a refusal that completes
at once. -/
def CommandUnit.take (u : CommandUnit) (code : BitVec 8) (args : Args) : Except ResultCode Command → CommandUnit
  | .ok c => { u with lastCode := code, completion := false, inFlight := some ⟨c, args, .handed false⟩ }
  | .error r => ({ u with lastCode := code, completion := false } : CommandUnit).complete (.bare r)

theorem State.takeCommand_eq (s : State) (p : Port) (v : Word) :
    s.takeCommand p v =
      (s.renewKeepalive p).setUnit p
        ((s.unit p).take (v.extractLsb' 0 8) (s.interface p).args
          (s.commonChecks p (v.extractLsb' 0 8) (s.interface p).args)) := by
  unfold State.takeCommand
  dsimp only
  cases s.commonChecks p (v.extractLsb' 0 8) (s.interface p).args <;> rfl

end Sys2Proof.Machine
end

section
/-! PROOFS. The command units and the window (chapters 8 and 9). -/

open Sys2Proof Sys2Proof.Machine

/-- Settles O15: behind the take stand the common checks, in their order; each refusal completes at once. -/
theorem cmdWriteTakesCommand : Obligations.CmdWriteTakesCommand := by
  intro p v s hreset hheld hflight args code refused
  have htake : s.writeWindow p 0x06 v = s.takeCommand p v := State.writeCmd_of_not_busy hflight v
  refine ⟨_, exec_of_busWrite_taken rfl hreset hheld, ?_⟩
  rw [htake, State.takeCommand_eq, State.renewKeepalive_eq]
  refine ⟨rfl, .of_units_eq (congrArg (s.units.set p ·) ?_)⟩
  have hrefused : ∀ r : ResultCode, (s.unit p).take code args (.error r) = refused r.toWord := by
    intro r
    simp only [CommandUnit.take, CommandUnit.complete, Answer.bare, refused, hflight]
  unfold State.commonChecks
  simp only [Command.supervisorOnly_iff]
  cases Command.ofCode code with
  | none => exact hrefused .badCommand
  | some c =>
    dsimp only
    split_ifs
    · exact hrefused .notAttached
    · exact hrefused .notSupervisor
    · exact hrefused .badArgument
    · rfl

/-- Settles O16: the two rows are one write to CMD, and BUSY is set. -/
theorem cmdWriteWhileBusySetsOverrun : Obligations.CmdWriteWhileBusySetsOverrun := by
  intro p v s hreset hheld hflight
  have hwrite : s.writeWindow p 0x06 v = s.setUnit p { s.unit p with overrun := true } := State.writeCmd_of_busy hflight v
  have hoverrun : exec (.overrun p v) s = .next (s.setUnit p { s.unit p with overrun := true }) :=
    (exec_of_busWrite_taken rfl hreset hheld).trans (congrArg _ hwrite)
  exact ⟨rfl, _, hoverrun, rfl, .of_units_eq rfl⟩

/-- Settles O17: the outcome on its way back is the one posted. -/
theorem completionPostsOutcome : Obligations.CompletionPostsOutcome := by
  intro p s c a r hflight
  exact ⟨_, exec_completion_of_answered hflight, rfl, .of_units_eq rfl⟩

/-- Settles O18: the taking of a request looks at the departure before it asks the owner. -/
theorem departedRequestsAreRefused : Obligations.DepartedRequestsAreRefused := by
  intro c p s a d hflight hdeparted
  exact ⟨_, exec_request_of_departed hflight hdeparted, .of_answer s p _⟩

/-- Settles O50: each of the four is the write at its own offset. -/
theorem flagWritesAct : Obligations.FlagWritesAct := by
  intro p v s hreset hheld
  refine ⟨⟨_, exec_of_busWrite_taken rfl hreset hheld, rfl, .of_inboxes_eq rfl⟩,
    ⟨_, exec_of_busWrite_taken rfl hreset hheld, rfl, .of_sessions_eq rfl⟩,
    ⟨_, exec_of_busWrite_taken rfl hreset hheld, rfl, .of_units_eq (congrArg (s.units.set p ·) ?_)⟩,
    ⟨_, exec_of_busWrite_taken rfl hreset hheld, rfl, .of_setInterface s p _⟩⟩
  have hclear : ∀ flag bit : Bool, (flag && !bit) = if bit then false else flag := by decide
  simp only [hclear]

/-- Settles O51: KALIVE has three cases by the port's state and the word, WCAP and PRESCALE have two. -/
theorem settingWritesAct : Obligations.SettingWritesAct := by
  intro p v s hreset hheld
  refine ⟨⟨s.writeKalive p v, exec_of_busWrite_taken (off := 0x15) (v := v) rfl hreset hheld, ?_⟩,
    ⟨s.writeWcap p v, exec_of_busWrite_taken (off := 0x16) (v := v) rfl hreset hheld, ?_⟩,
    (exec_of_busWrite_taken (off := 0x1A) (v := v) rfl hreset hheld).trans (congrArg _ ?_)⟩
  · unfold State.writeKalive
    by_cases hattached : s.attached p = true
    · by_cases hzero : v = 0
      · simp only [hattached, hzero, if_true]
        exact ⟨.of_sessions_eq rfl, rfl⟩
      · simp only [hattached, hzero, if_true, if_false]
        exact ⟨.of_sessions_eq rfl, rfl⟩
    · simp only [Bool.not_eq_true] at hattached
      simp only [hattached, if_true, Bool.false_eq_true, if_false]
      exact ⟨.of_sessions_eq rfl, rfl⟩
  · unfold State.writeWcap
    split_ifs with hcap
    · exact ⟨rfl, .of_poolPorts_eq rfl⟩
    · exact ⟨rfl, rfl, fun _ _ => rfl⟩
  · change s.writePrescale p v = _
    unfold State.writePrescale
    split_ifs <;> rfl

/-- Settles O52: a plain word outside the argument words has no effect, and a word with a row of its own is that row's. -/
theorem registerWriteAndTicklRead : Obligations.RegisterWriteAndTicklRead := by
  intro p v s hreset hheld a
  refine ⟨?_, fun off hplain hargs => ?_, ⟨rfl, rfl, rfl, rfl, rfl, rfl, rfl, rfl, rfl⟩, ?_⟩
  · intro off args hoff
    refine ⟨s.writeArgs p args, ?_, rfl, .of_setInterface s p _⟩
    rw [exec_of_busWrite_taken (c := .registerWrite p off v) rfl hreset hheld]
    obtain ⟨off, hlt⟩ := off
    obtain ⟨rfl, rfl⟩ | ⟨rfl, rfl⟩ | ⟨rfl, rfl⟩ | ⟨rfl, rfl⟩ := hoff <;> rfl
  · rw [exec_of_busWrite_taken rfl hreset hheld, s.writeWindow_of_plain p hplain hargs]
  · have hbus : s.takesBus p = true := (s.takesBus_iff p).2 ⟨hreset, hheld⟩
    have hword : s.readWord p 0x18 = s.tick.extractLsb' 0 16 := if_pos hbus
    have hread : s.readTickl p = s.setInterface p
        { s.interface p with snapshot := s.tick.extractLsb' 16 16, busOut := s.tick.extractLsb' 0 16 } := by
      rw [State.readTickl, if_pos hbus, hword]
    exact ⟨s.readTickl p, rfl, by rw [hread]; rfl, by rw [hread]; exact .of_setInterface s p _⟩

/-- Settles O53: a held port takes no write, and its reads show 0. -/
theorem heldPortTakesNoCycle : Obligations.HeldPortTakesNoCycle := by
  intro p v s hheld
  have hbus : ¬ s.takesBus p = true := by
    rw [State.takesBus_iff]
    rintro ⟨hreset, hport⟩
    simp [hreset, hport] at hheld
  have hread : ∀ off, s.readWord p off = 0 := fun off => if_neg hbus
  refine ⟨?_, fun off => ⟨exec_of_busWrite_ignored rfl hheld, hread off⟩, s.readTickl p, rfl, ?_⟩
  · simp only [List.forall_mem_cons, List.not_mem_nil, false_implies, implies_true, and_true]
    exact ⟨exec_of_busWrite_ignored rfl hheld, exec_of_busWrite_ignored rfl hheld, exec_of_busWrite_ignored rfl hheld,
      exec_of_busWrite_ignored rfl hheld, exec_of_busWrite_ignored rfl hheld, exec_of_busWrite_ignored rfl hheld,
      exec_of_busWrite_ignored rfl hheld, exec_of_busWrite_ignored rfl hheld, exec_of_busWrite_ignored rfl hheld,
      exec_of_busWrite_ignored rfl hheld⟩
  · rw [State.readTickl, if_neg hbus, hread]
    exact ⟨rfl, .of_setInterface s p _⟩

/-- Settles O44: the tick's length is the prescale value in cycles. -/
theorem tickAdvancesCounter : Obligations.TickAdvancesCounter := by
  intro s hreset
  exact congrArg Host.Outcome.next (if_neg (by simp [hreset]))

/-- Settles O55: both edges of RESETn, and the edge that is none. -/
theorem deviceResetAndRelease : Obligations.DeviceResetAndRelease := by
  intro s sup
  refine ⟨rfl, fun hlow => ?_, fun hhigh => ?_⟩
  · exact congrArg Host.Outcome.next (if_pos hlow)
  · exact congrArg Host.Outcome.next (if_neg (by simp [hhigh]))
end

section
/-! PROOFS. The lock table, said once (chapters 1 and 2): ALLOC, the words of QUERY, the immediate grant, the search for a
ticket, and the steps of grant evaluation. -/

namespace Sys2Proof.Machine

/-! ### ALLOC (R13) -/

theorem allocLock_of_empty {s : State} (h : s.freeLocks = []) (p : Port) (k : Kind) (lease : Word) :
    allocLock p k lease s = (s, .bare .noFreeLock) := by
  simp only [allocLock, h]

theorem allocLock_of_head {s : State} {i : LockIndex} {rest : List LockIndex} (h : s.freeLocks = i :: rest) (p : Port)
    (k : Kind) (lease : Word) :
    allocLock p k lease s =
      ({ s.setLock i { s.lock i with state := .allocated, kind := k, leasePeriod := lease, allocator := some p } with
          freeLocks := rest },
        answerHandle (s.handleOf i)) := by
  simp only [allocLock, h]

/-! ### The words of QUERY (R19, R172) -/

/-- A field that fits is its value moved up to its place. -/
theorem fieldAt_eq {v len : Nat} (hv : v < 2 ^ len) (lo : Nat) : fieldAt v lo len = BitVec.ofNat 16 (2 ^ lo * v) := by
  rw [fieldAt, Nat.mod_eq_of_lt hv, Nat.shiftLeft_eq, mul_comm]

/-- A field right above the value below it adds to it. -/
theorem ofNat_or_fieldAt {low v lo len : Nat} (hlow : low < 2 ^ lo) (hv : v < 2 ^ len) :
    BitVec.ofNat 16 low ||| fieldAt v lo len = BitVec.ofNat 16 (low + 2 ^ lo * v) := by
  rw [fieldAt_eq hv, ← BitVec.ofNat_or, Nat.or_comm, ← Nat.two_pow_add_eq_or_of_lt hlow, add_comm]

theorem Mark.code_lt (k : Mark) : k.code < 2 ^ 2 := by cases k <;> decide

theorem Kind.code_lt (k : Kind) : k.code < 2 ^ 2 := by cases k <;> decide

theorem Mode.code_lt (m : Mode) : m.code < 2 ^ 2 := by cases m <;> decide

theorem allocatorCode_lt (x : Option Port) : allocatorCode x < 2 ^ 3 := by
  cases x with
  | none => decide
  | some p => exact p.isLt.trans (by decide)

/-- R172: the first word of QUERY, by its fields. -/
theorem answerQuery_res0 {e : LockEntry} (h : e.state ≠ .free) :
    (answerQuery e).res0.toNat = e.generation.toNat + 1024 * e.mark.code + 4096 * e.kind.code + 16384 := by
  have hgen := e.generation.isLt
  have hmark := e.mark.code_lt
  have hkind := e.kind.code_lt
  have hstate : bitNat (e.state == .allocated) = 1 := by simp [(LockState.ne_free_iff _).1 h, bitNat]
  have hword : (answerQuery e).res0 =
      BitVec.ofNat 16 (e.generation.toNat + 2 ^ 10 * e.mark.code + 2 ^ 12 * e.kind.code + 2 ^ 14 * 1) := by
    simp only [answerQuery, hstate]
    rw [fieldAt_eq hgen, ofNat_or_fieldAt (by omega) hmark, ofNat_or_fieldAt (by omega) hkind,
      ofNat_or_fieldAt (by omega) (by decide)]
    norm_num
  rw [hword, BitVec.toNat_ofNat]
  omega

/-- R172: the holder field, by the form it reports; in both forms it stands above bit 7. -/
theorem holderReport_eq {e : LockEntry} (h : e.sharedHolders.length ≤ 32) :
    ∃ n, n < 2 ^ 8 ∧ holderReport e = BitVec.ofNat 16 (2 ^ 8 * n) ∧
      2 ^ 8 * n = match e.exclusiveHolder with
        | some r => 256 + 512 * r.agent.val + 4096 * r.port.val
        | none => 512 * e.sharedHolders.length := by
  unfold holderReport
  cases e.exclusiveHolder with
  | some r =>
    have hagent := r.agent.isLt
    have hport := r.port.isLt
    refine ⟨1 + 2 * r.agent.val + 16 * r.port.val, by omega, ?_, by dsimp only; omega⟩
    dsimp only
    rw [fieldAt_eq (show 1 < 2 ^ 1 by decide), ofNat_or_fieldAt (by decide) hagent,
      ofNat_or_fieldAt (by omega) (show r.port.val < 2 ^ 2 by omega)]
    congr 1
    omega
  | none =>
    refine ⟨2 * e.sharedHolders.length, by omega, ?_, by dsimp only; omega⟩
    dsimp only
    rw [fieldAt_eq (show e.sharedHolders.length < 2 ^ 6 by omega)]
    congr 1
    omega

/-- R172: the last word of QUERY, by its fields. -/
theorem answerQuery_res2 {e : LockEntry} (hqueue : e.queue.length ≤ 24) (hshared : e.sharedHolders.length ≤ 32) :
    (answerQuery e).res2.toNat =
      e.queue.length + 32 * (match e.allocator with | some q => q.val | none => 4) +
        (match e.exclusiveHolder with
          | some r => 256 + 512 * r.agent.val + 4096 * r.port.val
          | none => 512 * e.sharedHolders.length) := by
  obtain ⟨n, hn, hreport, hvalue⟩ := holderReport_eq hshared
  have hallocator := allocatorCode_lt e.allocator
  have hcode : allocatorCode e.allocator = match e.allocator with | some q => q.val | none => 4 := by
    cases e.allocator <;> rfl
  have hlow : e.queue.length + 2 ^ 5 * allocatorCode e.allocator < 2 ^ 8 := by omega
  have hword : (answerQuery e).res2 =
      BitVec.ofNat 16 (e.queue.length + 2 ^ 5 * allocatorCode e.allocator + 2 ^ 8 * n) := by
    simp only [answerQuery, hreport]
    rw [fieldAt_or_fieldAt (show e.queue.length < 2 ^ 5 by omega) hallocator, ← fieldAt_eq hn, ofNat_or_fieldAt hlow hn]
  rw [hword, BitVec.toNat_ofNat, ← hcode, ← hvalue]
  omega

theorem queryLock_eq (h : Handle) (s : State) :
    queryLock h s =
      if h.generation ≠ (s.lock h.index).generation then (s, .bare .staleHandle)
      else if (s.lock h.index).state = .free then (s, .bare .notAllocated)
      else (s, answerQuery (s.lock h.index)) := by
  rw [← s.elim_validateHandle h _ fun c => (s, Answer.bare c), queryLock]
  cases s.validateHandle h <;> rfl

/-! ### The immediate grant (R31, R32) -/

theorem acquireLock_of_grant {r : Requester} {h : Handle} {m : Mode} {s : State} (hpass : AcquirePasses s r h m)
    (hqueue : (s.lock h.index).queue = []) (haccepts : (s.lock h.index).Accepts m) (limit : Word) :
    acquireLock r h m limit s = grantNow r h.index m s := by
  have hgrant : ((s.lock h.index).queue.isEmpty && (s.lock h.index).compatible m) = true := by
    rw [Bool.and_eq_true, List.isEmpty_iff, LockEntry.compatible_iff]
    exact ⟨hqueue, haccepts⟩
  simp only [acquireLock, acquireRefusal_of_passes hpass, hgrant, if_true]

theorem grantNow_of_not_leases {s : State} {i : LockIndex} {m : Mode} (h : ¬ (s.lock i).Leases m) (r : Requester) :
    grantNow r i m s = (s.setLock i ((s.lock i).grantTo r m), answerGranted (s.handleOf i) m (s.lock i).mark) :=
  if_neg (mt (LockEntry.leased_iff _ _).1 h)

theorem grantNow_of_inbox_full {s : State} {i : LockIndex} {m : Mode} {r : Requester} (h : (s.lock i).Leases m)
    (hfull : 16 ≤ (s.inbox r.port).entries.length + (s.inbox r.port).reserved) :
    grantNow r i m s = (s, .bare .inboxFull) := by
  have hroom : s.freeRoom r.port < 1 := Nat.lt_one_iff.2 ((s.freeRoom_eq_zero_iff r.port).2 hfull)
  simp only [grantNow, (LockEntry.leased_iff _ _).2 h, hroom, if_true]

/-- R32: a grant under a lease reserves one entry and inserts the lease deadline. -/
theorem grantNow_of_room {s : State} {i : LockIndex} {m : Mode} {r : Requester} (h : (s.lock i).Leases m)
    (hfull : ¬ 16 ≤ (s.inbox r.port).entries.length + (s.inbox r.port).reserved) :
    grantNow r i m s =
      ({ (s.setLock i ((s.lock i).grantTo r m)).reserve r.port 1 with
          deadlines := placeDeadline s.tick ⟨.lease i, s.after (s.lock i).leasePeriod, false⟩ s.deadlines },
        answerGranted (s.handleOf i) m (s.lock i).mark) := by
  have hroom : ¬ s.freeRoom r.port < 1 := fun hlt =>
    hfull ((s.freeRoom_eq_zero_iff r.port).1 (Nat.lt_one_iff.1 hlt))
  simp only [grantNow, (LockEntry.leased_iff _ _).2 h, hroom, if_true, if_false, State.startLease,
    State.reserve_lock, State.setLock_lock_self, LockEntry.grantTo_leasePeriod]
  rfl

theorem GrantedIn.of_grantTo (e : LockEntry) (r : Requester) (m : Mode) : GrantedIn r m e (e.grantTo r m) := by
  cases m with
  | exclusive => exact ⟨rfl, fun q => by simp [LockEntry.grantTo]⟩
  | shared =>
    refine ⟨rfl, fun q => ?_⟩
    by_cases hmem : r ∈ e.sharedHolders
    · simp only [LockEntry.grantTo, insertRequester, List.contains_iff_mem, hmem, if_true, true_and]
      exact ⟨.inl, fun h => h.elim id fun hq => hq ▸ hmem⟩
    · simp [LockEntry.grantTo, insertRequester, hmem]

theorem answerGranted_eq (h : Handle) (m : Mode) (k : Mark) :
    answerGranted h m k = ⟨.granted, h.toWord, BitVec.ofNat 16 (m.code + 4 * k.code), 0⟩ := by
  rw [answerGranted, fieldAt_or_fieldAt m.code_lt k.code_lt]
  rfl

/-! ### The search for a ticket (R26) -/

/-- The search answers the first value not in use, or steps `n` times through values in use. -/
theorem firstFreeTicket_spec (used : List (BitVec 8)) (n : Nat) (t : BitVec 8) :
    ∃ k ≤ n, firstFreeTicket used n t = t + BitVec.ofNat 8 k ∧ (∀ j < k, t + BitVec.ofNat 8 j ∈ used) ∧
      (k < n → t + BitVec.ofNat 8 k ∉ used) := by
  induction n generalizing t with
  | zero => exact ⟨0, le_rfl, by simp [firstFreeTicket], by simp, by simp⟩
  | succ n ih =>
    by_cases hused : t ∈ used
    · obtain ⟨k, hk, hticket, hbelow, hfree⟩ := ih (t + 1)
      have hshift : ∀ j, t + 1 + BitVec.ofNat 8 j = t + BitVec.ofNat 8 (j + 1) := fun j => by
        rw [add_assoc, add_comm (1 : BitVec 8), BitVec.ofNat_add]
        rfl
      have hstep : firstFreeTicket used (n + 1) t = firstFreeTicket used n (t + 1) :=
        if_pos (List.contains_iff_mem.2 hused)
      refine ⟨k + 1, by omega, by rw [hstep, hticket, hshift], fun j hj => ?_,
        fun hk' => by simpa only [hshift] using hfree (by omega)⟩
      cases j with
      | zero => simpa using hused
      | succ j => simpa only [hshift] using hbelow j (by omega)
    · exact ⟨0, by omega, by simp [firstFreeTicket, hused], by simp, by simpa using hused⟩

/-- R26: 25 values from the counter on are distinct, so a list of at most 24 does not hold them all. -/
theorem exists_ticket_not_mem {used : List (BitVec 8)} (h : used.length ≤ 24) (t : BitVec 8) :
    ∃ j ≤ 24, t + BitVec.ofNat 8 j ∉ used := by
  by_contra! hall
  have hinj : Set.InjOn (fun j : Nat => t + BitVec.ofNat 8 j) (Finset.range 25) := by
    intro j hj k hk hjk
    have hmod : (BitVec.ofNat 8 j).toNat = (BitVec.ofNat 8 k).toNat := congrArg _ (add_left_cancel hjk)
    simp only [Finset.coe_range, Set.mem_Iio] at hj hk
    rw [BitVec.toNat_ofNat, BitVec.toNat_ofNat] at hmod
    omega
  have hcard : ((Finset.range 25).image fun j : Nat => t + BitVec.ofNat 8 j).card ≤ used.toFinset.card :=
    Finset.card_le_card fun x hx => by
      obtain ⟨j, hj, rfl⟩ := Finset.mem_image.1 hx
      exact List.mem_toFinset.2 (hall j (by simpa [Nat.lt_succ_iff] using hj))
  rw [Finset.card_image_of_injOn hinj, Finset.card_range] at hcard
  have := used.toFinset_card_le
  omega

theorem State.liveTickets_eq (s : State) (p : Port) :
    s.liveTickets p = (s.records.filter fun w => w.requester.port == p).map (·.ticket) := by
  simp only [State.liveTickets, State.records, List.filter_flatMap, List.map_flatMap]

theorem State.mem_liveTickets (s : State) (p : Port) (t : BitVec 8) :
    t ∈ s.liveTickets p ↔ ∃ w ∈ s.records, w.requester.port = p ∧ w.ticket = t := by
  simp [State.liveTickets_eq, and_assoc]

/-- R26: the ticket given is free, and every value from the counter up to it is in use. -/
theorem State.nextTicket_spec {s : State} {p : Port}
    (h : (s.records.filter fun w => w.requester.port == p).length ≤ 24) :
    ∃ k ≤ 24, s.nextTicket p = (s.pool p).nextTicket + BitVec.ofNat 8 k ∧ s.nextTicket p ∉ s.liveTickets p ∧
      ∀ j < k, (s.pool p).nextTicket + BitVec.ofNat 8 j ∈ s.liveTickets p := by
  obtain ⟨k, hk, hticket, hbelow, hfree⟩ := firstFreeTicket_spec (s.liveTickets p) 24 (s.pool p).nextTicket
  have hlength : (s.liveTickets p).length ≤ 24 := by rwa [State.liveTickets_eq, List.length_map]
  obtain ⟨j, hj, hnot⟩ := exists_ticket_not_mem hlength (s.pool p).nextTicket
  have hkj : k ≤ j := by
    by_contra hlt
    exact hnot (hbelow j (by omega))
  refine ⟨k, hk, hticket, ?_, hbelow⟩
  have hnext : s.nextTicket p = (s.pool p).nextTicket + BitVec.ofNat 8 k := hticket
  rw [hnext]
  rcases hk.lt_or_eq with hlt | rfl
  · exact hfree hlt
  · exact (show j = 24 by omega) ▸ hnot

end Sys2Proof.Machine
end

section
/-! PROOFS. The lock table's commands ALLOC, QUERY and the immediate ACQUIRE, and the ticket given (chapters 1 and 2). -/

open Sys2Proof Sys2Proof.Machine

/-- Settles O19: the free-lock list has a head or is empty. -/
theorem allocTakesHead : Obligations.AllocTakesHead := by
  intro p s a hreq
  refine ⟨fun hempty => ⟨_, exec_request_of_requests hreq, .of_refused (allocLock_of_empty hempty p _ _) p⟩, ?_⟩
  intro i rest hhead
  refine ⟨_, exec_request_of_requests hreq, ?_⟩
  rw [show Command.alloc.owner p a s = _ from allocLock_of_head hhead p a.allocKind a.lease]
  exact ⟨rfl, .of_locks_eq rfl, .of_answer rfl p _⟩

/-- Settles O22: behind handle validation the answer is the report on the lock, and its words are sums of fields. -/
theorem queryReportsLock : Obligations.QueryReportsLock := by
  intro p s a hreq e hqueue hshared
  refine ⟨_, exec_request_of_requests hreq, ?_⟩
  rw [show Command.query.owner p a s = _ from queryLock_eq a.handle s]
  split_ifs with hgen hfree
  · exact .of_answer s p _
  · exact .of_answer s p _
  · exact ⟨_, _, .of_answer s p _, answerQuery_res0 hfree, answerQuery_res2 hqueue hshared⟩

/-- Settles O24: the grant takes no lease, finds the inbox full, or has room; the handle that passed is the lock's
present one. -/
theorem acquireIsGrantedAtOnce : Obligations.AcquireIsGrantedAtOnce := by
  intro p s a hreq i e r b hpass hqueue haccepts
  have hgranted := GrantedIn.of_grantTo e r a.mode
  have hcurrent : a.handle.generation = (s.lock a.handle.index).generation := hpass.1.1.symm
  refine ⟨_, exec_acquire_of_requests hreq, ?_⟩
  rw [acquireLock_of_grant hpass hqueue haccepts]
  by_cases hlease : e.Leases a.mode
  · by_cases hfull : 16 ≤ b.entries.length + b.reserved
    · rw [grantNow_of_inbox_full hlease hfull]
      exact ⟨fun _ => .of_answer s p _, fun h => absurd ⟨hlease, hfull⟩ h⟩
    · rw [grantNow_of_room hlease hfull, answerGranted_eq, State.handleOf_toWord hcurrent]
      have hlock := OnlyLock.of_setLock s i (e.grantTo r a.mode)
      refine ⟨fun h => absurd h.2 hfull, fun _ => ⟨hlock.1.symm ▸ hgranted, ⟨rfl, hlock.2⟩, .of_answer rfl p _,
        fun h => absurd hlease h, fun _ => ⟨rfl, .of_inboxes_eq rfl⟩⟩⟩
  · rw [grantNow_of_not_leases hlease, answerGranted_eq, State.handleOf_toWord hcurrent]
    have hlock := OnlyLock.of_setLock s i (e.grantTo r a.mode)
    exact ⟨fun h => absurd h.1 hlease, fun _ => ⟨hlock.1.symm ▸ hgranted, ⟨rfl, hlock.2⟩, .of_answer rfl p _,
      fun _ => rfl, fun h => absurd h hlease⟩⟩

/-- Settles O27: `State.nextTicket_spec`, with the tickets in use read as records. -/
theorem ticketIsFirstFree : Obligations.TicketIsFirstFree := by
  intro p s hcount used
  obtain ⟨k, hk, hticket, hfree, hbelow⟩ := State.nextTicket_spec hcount
  rw [hticket] at hfree
  simp only [State.mem_liveTickets] at hfree hbelow
  exact ⟨k, hticket, hk, hfree, hbelow⟩
end

section
/-! PROOFS. Grant evaluation, said once (R39 to R43): each of its steps as an equation, the state a step leaves, and where it
stops. -/

namespace Sys2Proof.Machine

/-! ### The steps -/

theorem State.evaluateSteps_of_empty {s : State} {i : LockIndex} (h : (s.lock i).queue = []) (n : Nat) :
    s.evaluateSteps i n = s := by
  cases n with
  | zero => rfl
  | succ n => simp only [State.evaluateSteps, h]

theorem State.evaluateSteps_of_departed {s : State} {i : LockIndex} {w : WaiterRecord} {rest : List WaiterRecord}
    (hqueue : (s.lock i).queue = w :: rest) (h : s.attached w.requester.port = false) (n : Nat) :
    s.evaluateSteps i (n + 1) = (s.discardRecord i w).evaluateSteps i n := by
  simp only [State.evaluateSteps, hqueue, h, if_true]

theorem State.evaluateSteps_of_blocked {s : State} {i : LockIndex} {w : WaiterRecord} {rest : List WaiterRecord}
    (hqueue : (s.lock i).queue = w :: rest) (h : s.attached w.requester.port = true)
    (hblocked : ¬ (s.lock i).Accepts w.mode) (n : Nat) : s.evaluateSteps i n = s := by
  have hcompatible : ¬ (s.lock i).compatible w.mode = true := mt (LockEntry.compatible_iff _ _).1 hblocked
  cases n with
  | zero => rfl
  | succ n => simp only [State.evaluateSteps, hqueue, h, Bool.true_eq_false, if_false, if_neg hcompatible]

theorem State.evaluateSteps_of_granted {s : State} {i : LockIndex} {w : WaiterRecord} {rest : List WaiterRecord}
    (hqueue : (s.lock i).queue = w :: rest) (h : s.attached w.requester.port = true)
    (haccepts : (s.lock i).Accepts w.mode) (n : Nat) :
    s.evaluateSteps i (n + 1) = (s.grantHead i w).evaluateSteps i n := by
  have hcompatible : (s.lock i).compatible w.mode = true := (LockEntry.compatible_iff _ _).2 haccepts
  simp only [State.evaluateSteps, hqueue, h, Bool.true_eq_false, if_false, hcompatible, if_true]

theorem State.discardRecord_queue {s : State} {i : LockIndex} {w : WaiterRecord} {rest : List WaiterRecord}
    (hqueue : (s.lock i).queue = w :: rest) : ((s.discardRecord i w).lock i).queue = rest := by
  rw [State.discardRecord_lock, if_pos rfl, hqueue, List.erase_cons_head]

theorem State.grantHead_queue {s : State} {i : LockIndex} {w : WaiterRecord} {rest : List WaiterRecord}
    (hqueue : (s.lock i).queue = w :: rest) : ((s.grantHead i w).lock i).queue = rest := by
  rw [State.grantHead_lock, if_pos rfl, LockEntry.grantTo_queue, hqueue, List.erase_cons_head]

/-- A departed head is removed, and evaluation goes on (R40). -/
theorem State.evaluate_of_departed {s : State} {i : LockIndex} {w : WaiterRecord} {rest : List WaiterRecord}
    (hqueue : (s.lock i).queue = w :: rest) (h : s.attached w.requester.port = false) :
    s.evaluate i = (s.discardRecord i w).evaluate i := by
  rw [State.evaluate, State.evaluate, State.discardRecord_queue hqueue, hqueue, List.length_cons,
    State.evaluateSteps_of_departed hqueue h]

/-- A live head that the holders accept is granted, and evaluation goes on (R41). -/
theorem State.evaluate_of_granted {s : State} {i : LockIndex} {w : WaiterRecord} {rest : List WaiterRecord}
    (hqueue : (s.lock i).queue = w :: rest) (h : s.attached w.requester.port = true)
    (haccepts : (s.lock i).Accepts w.mode) : s.evaluate i = (s.grantHead i w).evaluate i := by
  rw [State.evaluate, State.evaluate, State.grantHead_queue hqueue, hqueue, List.length_cons,
    State.evaluateSteps_of_granted hqueue h haccepts]

/-! ### Where evaluation stops (R39) -/

/-- Nothing at the head of lock `i`'s queue can be removed or granted. -/
def State.Settled (s : State) (i : LockIndex) : Prop :=
  (s.lock i).queue = [] ∨
    ∃ w rest, (s.lock i).queue = w :: rest ∧ s.attached w.requester.port = true ∧ ¬ (s.lock i).Accepts w.mode

/-- Every step takes one record off the queue, so as many steps as there are records are enough. -/
theorem State.evaluateSteps_settled (i : LockIndex) (n : Nat) (s : State) (h : (s.lock i).queue.length ≤ n) :
    (s.evaluateSteps i n).Settled i := by
  induction n generalizing s with
  | zero => exact .inl (List.length_eq_zero_iff.1 (Nat.le_zero.1 h))
  | succ n ih =>
    cases hqueue : (s.lock i).queue with
    | nil =>
      rw [State.evaluateSteps_of_empty hqueue]
      exact .inl hqueue
    | cons w rest =>
      have hrest : rest.length ≤ n := by
        rw [hqueue, List.length_cons] at h
        omega
      by_cases hlive : s.attached w.requester.port = true
      · by_cases haccepts : (s.lock i).Accepts w.mode
        · rw [State.evaluateSteps_of_granted hqueue hlive haccepts]
          exact ih _ (by rwa [State.grantHead_queue hqueue])
        · rw [State.evaluateSteps_of_blocked hqueue hlive haccepts]
          exact .inr ⟨w, rest, hqueue, hlive, haccepts⟩
      · rw [State.evaluateSteps_of_departed hqueue (by simpa using hlive)]
        exact ih _ (by rwa [State.discardRecord_queue hqueue])

theorem State.evaluate_settled (s : State) (i : LockIndex) : (s.evaluate i).Settled i :=
  State.evaluateSteps_settled i _ s le_rfl

/-! ### What a step leaves -/

/-- R25, R40: from `s` to `t`, nothing has changed but what the lock table keeps for its queues, and the inboxes. -/
def QueuesOnly (s t : State) : Prop :=
  t = { s with
    locks := t.locks, poolPorts := t.poolPorts, freeRecords := t.freeRecords, inboxes := t.inboxes
    deadlines := t.deadlines }

theorem queuesOnly_iff (s t : State) :
    QueuesOnly s t ↔
      t.interfaces = s.interfaces ∧ t.units = s.units ∧ t.freeLocks = s.freeLocks ∧ t.tick = s.tick ∧
      t.prescale = s.prescale ∧ t.tickLength = s.tickLength ∧ t.cycleCount = s.cycleCount ∧ t.barriers = s.barriers ∧
      t.sessions = s.sessions ∧ t.supervisor = s.supervisor ∧ t.engine = s.engine ∧
      t.departureQueue = s.departureQueue ∧ t.resetLow = s.resetLow ∧ t.prstLow = s.prstLow ∧ t.pending = s.pending := by
  cases s
  cases t
  simp [QueuesOnly]

theorem QueuesOnly.evaluate (s : State) (i : LockIndex) : QueuesOnly s (s.evaluate i) :=
  (queuesOnly_iff s _).2 (by simp)

/-- The state of a grant before the lease starts or the last reservations go: the record is freed, its requester holds the
lock, and the GRANTED entry has taken one reservation (R41, R43). -/
def State.grantedHead (s : State) (i : LockIndex) (w : WaiterRecord) : State :=
  let u := s.freeRecord i w
  (u.setLock i ((u.lock i).grantTo w.requester w.mode)).deliverReserved w.requester.port
    ⟨w.requester.agent, .granted ⟨i, (s.lock i).generation⟩ w.mode w.ticket (s.lock i).mark⟩

theorem State.grantedHead_lock_self (s : State) (i : LockIndex) (w : WaiterRecord) :
    (s.grantedHead i w).lock i =
      ({ s.lock i with queue := (s.lock i).queue.erase w } : LockEntry).grantTo w.requester w.mode := by
  simp only [State.grantedHead, State.deliverReserved_lock, State.setLock_lock_self, State.freeRecord_lock, if_true]

theorem State.grantHead_of_leases {s : State} {i : LockIndex} {w : WaiterRecord} (h : (s.lock i).Leases w.mode) :
    s.grantHead i w = (s.grantedHead i w).startLease i := by
  simp only [State.grantHead, (LockEntry.leased_iff _ _).2 h, if_true]
  rfl

theorem State.grantHead_of_not_leases {s : State} {i : LockIndex} {w : WaiterRecord} (h : ¬ (s.lock i).Leases w.mode) :
    s.grantHead i w = (s.grantedHead i w).dropReservations w.requester.port (w.reservations - 1) := by
  simp only [State.grantHead, mt (LockEntry.leased_iff _ _).1 h]
  rfl

/-! ### A grant as two events (R25, R41 to R43) -/

/-- At a port that is ATTACHED the reservation becomes the entry. -/
theorem State.deliverReserved_of_attached {s : State} {p : Port} (h : s.attached p = true) (e : InboxEntry) :
    s.deliverReserved p e =
      s.setInbox p ⟨(s.inbox p).entries ++ [e], (s.inbox p).reserved - 1⟩ := by
  simp [State.deliverReserved, h, State.dropReservations, State.deliver, State.setInbox, State.inbox]

theorem State.deliverReserved_of_departed {s : State} {p : Port} (h : s.attached p = false) (e : InboxEntry) :
    s.deliverReserved p e = s.dropReservations p 1 := by
  simp [State.deliverReserved, h]

/-- The record has left the queue, is free, and its port's inbox holds what is given. -/
def State.freedWith (s : State) (i : LockIndex) (w : WaiterRecord) (entries : List InboxEntry) (reserved : Nat) : State :=
  (s.freeRecord i w).setInbox w.requester.port ⟨entries, reserved⟩

theorem RecordFreed.of_freedWith (s : State) (i : LockIndex) (w : WaiterRecord) (entries : List InboxEntry)
    (reserved : Nat) : RecordFreed i w entries reserved s (s.freedWith i w entries reserved) :=
  ⟨rfl, .of_locks_eq rfl, .of_poolPorts_eq rfl, .of_inboxes_eq rfl⟩

theorem State.setInbox_self (s : State) (p : Port) : s.setInbox p (s.inbox p) = s := by
  have hvector : s.inboxes.set p s.inboxes[p] = s.inboxes := by simp
  exact congrArg (fun v => { s with inboxes := v }) hvector

theorem State.dropReservations_zero (s : State) (p : Port) : s.dropReservations p 0 = s :=
  s.setInbox_self p

/-- R41: the grant of a live head, behind the freeing of its record. -/
theorem State.grantedHead_of_attached {s : State} {w : WaiterRecord} (h : s.attached w.requester.port = true)
    (i : LockIndex) :
    s.grantedHead i w =
      (s.freedWith i w
          ((s.inbox w.requester.port).entries ++
            [⟨w.requester.agent, .granted ⟨i, (s.lock i).generation⟩ w.mode w.ticket (s.lock i).mark⟩])
          ((s.inbox w.requester.port).reserved - 1)).setLock i
        (({ s.lock i with queue := (s.lock i).queue.erase w } : LockEntry).grantTo w.requester w.mode) := by
  have hlock := s.freeRecord_lock i w i
  rw [if_pos rfl] at hlock
  rw [State.grantedHead, State.deliverReserved_of_attached (by simpa using h), hlock]
  rfl

end Sys2Proof.Machine
end

section
/-! PROOFS. Grant evaluation (chapter 2). -/

open Sys2Proof Sys2Proof.Machine

/-- Settles O32: each head is one of the three of `State.evaluate_of_departed`, `State.evaluateSteps_of_blocked` and
`State.evaluate_of_granted`; a grant frees the record, then rewrites the lock and starts the lease. -/
theorem evaluationGrantsInOrder : Obligations.EvaluationGrantsInOrder := by
  intro s i e
  refine ⟨s.evaluate_of_queue_nil i, ?_⟩
  intro w rest hqueue p b
  refine ⟨fun hdeparted => ?departed, fun hlive hblocked => State.evaluateSteps_of_blocked hqueue hlive hblocked _,
    fun hlive haccepts hreserved => ?granted⟩
  case departed => exact ⟨_, State.evaluate_of_departed hqueue hdeparted, .of_discardRecord s i w⟩
  case granted =>
    have hrest : (s.lock i).queue.erase w = rest := by rw [hqueue, List.erase_cons_head]
    have hgranted := State.grantedHead_of_attached hlive i
    rw [hrest] at hgranted
    refine ⟨_, s.grantHead i w, State.evaluate_of_granted hqueue hlive haccepts, .of_freedWith s i w _ _, ?_⟩
    have hlock : (s.grantHead i w).lock i = ({ e with queue := rest } : LockEntry).grantTo w.requester w.mode := by
      rw [State.grantHead_lock, if_pos rfl, hrest]
    refine ⟨hlock ▸ .of_grantTo _ _ _, ⟨rfl, fun j hj => ?_⟩, ?_⟩
    · rw [State.grantHead_lock, if_neg hj]
      exact (s.freeRecord_lock i w j).trans (if_neg hj) |>.symm
    · by_cases hlease : w.mode = .exclusive ∧ e.leasePeriod ≠ 0
      · rw [State.grantHead_of_leases hlease, hgranted, if_pos hlease, State.startLease, State.setLock_lock_self,
          LockEntry.grantTo_leasePeriod]
        rfl
      · rw [if_neg hlease] at hreserved
        rw [State.grantHead_of_not_leases hlease, hreserved, State.dropReservations_zero, hgranted, if_neg hlease]
        rfl

/-- Settles O33: `State.evaluate_settled` says where evaluation stops, `QueuesOnly` what it leaves. -/
theorem evaluationStopsAtBlockedHead : Obligations.EvaluationStopsAtBlockedHead := by
  intro s i t
  obtain ⟨removed, hremoved⟩ := s.evaluate_queue_suffix i
  exact ⟨s.evaluate_settled i, ⟨removed, hremoved.symm⟩, ⟨rfl, fun j hj => s.evaluate_lock_ne i j hj⟩,
    QueuesOnly.evaluate s i⟩
end

section
/-! PROOFS. ARRIVE, the session unit's commands, a departure and the expiries, said once (chapters 3, 5 and 6). -/

namespace Sys2Proof.Machine

/-! ### ARRIVE (R100 to R102) -/

theorem State.setBarrier_self (s : State) (b : BarrierIndex) : s.setBarrier b (s.barrier b) = s := by
  have hvector : s.barriers.set b s.barriers[b] = s.barriers := by simp
  exact congrArg (fun v => { s with barriers := v }) hvector

theorem arriveBarrier_eq (r : Requester) (b : BarrierIndex) (s : State) :
    arriveBarrier r b s =
      if r ∉ (s.barrier b).members then (s, .bare .notMember)
      else if (s.barrier b).state = .broken then (s, .bare .broken)
      else if r ∈ (s.barrier b).arrived then (s, .bare .arrived)
      else if ∀ m ∈ (s.barrier b).members, m ≠ r → m ∈ (s.barrier b).arrived then
        (s.openBarrier b, answerPhase .opened ((s.barrier b).phase + 1))
      else if 16 ≤ (s.inbox r.port).entries.length + (s.inbox r.port).reserved then (s, .bare .inboxFull)
      else
        ((s.setBarrier b
            { s.barrier b with arrived := (s.barrier b).arrived ++ [r], state := .gathering }).reserve r.port 1,
          answerPhase .queued (s.barrier b).phase) := by
  have hothers : ((s.barrier b).members.all fun m => m == r || (s.barrier b).arrived.contains m) = true ↔
      ∀ m ∈ (s.barrier b).members, m ≠ r → m ∈ (s.barrier b).arrived := by
    simp [or_iff_not_imp_left]
  simp only [arriveBarrier, hothers, State.freeRoom_eq_zero_iff]

/-! ### Departure (R122) -/

/-- From `s` to `t`, nothing has changed but what a departure touches. -/
def DepartureOnly (s t : State) : Prop :=
  t = { s with
    units := t.units, sessions := t.sessions, engine := t.engine, departureQueue := t.departureQueue
    inboxes := t.inboxes, deadlines := t.deadlines }

theorem departureOnly_iff (s t : State) :
    DepartureOnly s t ↔
      t.interfaces = s.interfaces ∧ t.locks = s.locks ∧ t.freeLocks = s.freeLocks ∧ t.freeRecords = s.freeRecords ∧
      t.poolPorts = s.poolPorts ∧ t.tick = s.tick ∧ t.prescale = s.prescale ∧ t.tickLength = s.tickLength ∧
      t.cycleCount = s.cycleCount ∧ t.barriers = s.barriers ∧ t.supervisor = s.supervisor ∧ t.resetLow = s.resetLow ∧
      t.prstLow = s.prstLow ∧ t.pending = s.pending := by
  cases s
  cases t
  simp [DepartureOnly]

theorem DepartureOnly.depart (s : State) (p : Port) (c : Cause) : DepartureOnly s (s.depart p c) :=
  (departureOnly_iff s _).2 (by simp)

theorem DepartedWith.of_depart (s : State) (p : Port) (c : Cause) : DepartedWith p c s.deadlines s (s.depart p c) := by
  have hengine := s.depart_engine p c
  refine ⟨⟨?_, fun q hq => ?_⟩, fun hidle => ?_, fun hbusy => ?_, ⟨?_, fun q hq => ?_⟩, s.depart_deadlines p c⟩
  · rw [s.depart_session, if_pos rfl]
  · rw [s.depart_session, if_neg hq]
  · rw [if_pos hidle] at hengine
    exact Prod.mk.inj hengine
  · rw [if_neg hbusy] at hengine
    exact Prod.mk.inj hengine
  · rw [s.depart_inbox, if_pos rfl]
  · rw [s.depart_inbox, if_neg hq]

theorem MarkedDeparted.of_markDeparted (u : CommandUnit) : MarkedDeparted u u.markDeparted := by
  unfold CommandUnit.markDeparted
  split
  case h_1 c a d hflight =>
    refine ⟨fun c' a' d' h => ?_, fun h => absurd hflight (h c a d)⟩
    rw [hflight] at h
    cases h
    rfl
  case h_2 hnone => exact ⟨fun c a d h => absurd h (hnone c a d), fun _ => rfl⟩

theorem State.depart_unit_self (s : State) (p : Port) (c : Cause) : (s.depart p c).unit p = (s.unit p).markDeparted := by
  rw [s.depart_unit, if_pos rfl]

theorem State.depart_unit_ne (s : State) (p : Port) (c : Cause) {k : Port} (h : k ≠ p) :
    (s.depart p c).unit k = s.unit k := by
  rw [s.depart_unit, if_neg h]

/-! ### The session unit's commands (R116, R117, R119) -/

theorem attachPort_of_not_detached {s : State} {p : Port} (h : (s.session p).state ≠ .detached) :
    attachPort p s = (s, .bare .wrongState) :=
  if_pos h

/-- R116: the state once port `p` is ATTACHED in its next session. -/
def State.startSession (s : State) (p : Port) : State :=
  { (s.setSession p { s.session p with
        state := .attached, generation := nextGeneration (s.session p).generation }).setPool p
      { s.pool p with nextTicket := 0 } with
    deadlines :=
      if (s.session p).keepalive = 0 then s.deadlines
      else placeDeadline s.tick ⟨.keepalive p, s.after (s.session p).keepalive, false⟩ s.deadlines }

theorem attachPort_of_detached {s : State} {p : Port} (h : (s.session p).state = .detached) :
    attachPort p s = (s.startSession p, answerGeneration (nextGeneration (s.session p).generation)) := by
  unfold attachPort State.startSession
  simp only [if_neg (not_not.2 h)]
  split_ifs <;> rfl

theorem forceDetachPort_eq (q : Port) (s : State) :
    forceDetachPort q s =
      if s.attached q = false then (s, .bare .targetDetached)
      else (s.depart q .forced, answerGeneration (s.session q).generation) :=
  rfl

/-- A departure before the answer, of the same port or of another, leaves the same command in flight, which is then
answered. -/
theorem State.depart_answer_unit {s : State} {p : Port} {k : Command} {x : Args}
    (hflight : (s.unit p).inFlight = some ⟨k, x, .handed false⟩) (q : Port) (c : Cause) (a : Answer) :
    ((s.depart q c).answer p a).unit p = { s.unit p with inFlight := some ⟨k, x, .answered a⟩ } := by
  rw [State.answer_unit, if_pos rfl]
  by_cases hpq : p = q
  · subst hpq
    rw [s.depart_unit_self, CommandUnit.markDeparted, hflight]
    rfl
  · rw [s.depart_unit_ne q c hpq, hflight]
    rfl

theorem AnsweredWith.of_depart {s : State} {p : Port} {k : Command} {x : Args} {a : Answer}
    (hflight : (s.unit p).inFlight = some ⟨k, x, .handed false⟩) (c : Cause) :
    AnsweredWith p a s ((s.depart p c).answer p a) := by
  refine ⟨?_, fun q hq => ?_⟩
  · rw [State.depart_answer_unit hflight, hflight]
    rfl
  · rw [State.answer_unit, if_neg hq, s.depart_unit_ne p c hq]

/-- An answer does not touch what `DepartedWith` reads. -/
theorem DepartedWith.answer {p : Port} {c : Cause} {d : List Deadline} {s t : State} (h : DepartedWith p c d s t)
    (q : Port) (a : Answer) : DepartedWith p c d s (t.answer q a) :=
  h

theorem DepartureOnly.answer {s t : State} (h : DepartureOnly s t) (p : Port) (a : Answer) :
    DepartureOnly s (t.answer p a) :=
  congrArg (State.answer · p a) h

/-! ### Expiries (R62, R63, R66, R67) -/

theorem State.setInbox_dropReservations (s : State) (p : Port) (x : Inbox) (n : Nat) :
    (s.setInbox p x).dropReservations p n = s.setInbox p { x with reserved := x.reserved - n } := by
  rw [State.dropReservations, State.setInbox_inbox_self, State.setInbox, State.setInbox, State.setInbox, Vector.set_set]

/-- R63: the wait that ends, where its record is the only one of its requester. -/
theorem State.expireWait_of_unique {s : State} {i : LockIndex} {w : WaiterRecord} (hmem : w ∈ (s.lock i).queue)
    (hunique : ∀ x ∈ (s.lock i).queue, x.requester = w.requester → x = w) (hreserved : 1 ≤ w.reservations) :
    s.expireWait i w.requester =
      (s.freedWith i w
        (if s.attached w.requester.port then
          (s.inbox w.requester.port).entries ++
            [⟨w.requester.agent, .waitExpired ⟨i, (s.lock i).generation⟩ w.mode w.ticket⟩]
        else (s.inbox w.requester.port).entries)
        ((s.inbox w.requester.port).reserved - w.reservations)).evaluate i := by
  have hfind : ((s.lock i).queue.find? fun x => x.requester == w.requester) = some w := by
    cases hfound : (s.lock i).queue.find? fun x => x.requester == w.requester with
    | none => exact absurd (List.find?_eq_none.1 hfound w hmem) (by simp)
    | some x =>
      rw [hunique x (List.mem_of_find?_eq_some hfound) (by simpa using List.find?_some hfound)]
  unfold State.expireWait
  rw [hfind]
  dsimp only
  cases hattached : s.attached w.requester.port with
  | true =>
    have hreserved' : (s.inbox w.requester.port).reserved - 1 - (w.reservations - 1) =
        (s.inbox w.requester.port).reserved - w.reservations := by omega
    rw [if_pos rfl, if_pos rfl, State.deliverReserved_of_attached (by simpa using hattached),
      State.setInbox_dropReservations]
    simp only [State.freeRecord_inbox, hreserved']
    rfl
  | false =>
    rw [if_neg (by simp), if_neg (by simp)]
    rfl

theorem State.expireLease_of_holder {s : State} {i : LockIndex} {r : Requester}
    (h : (s.lock i).exclusiveHolder = some r) :
    s.expireLease i =
      ((s.setLock i { s.lock i with
            exclusiveHolder := none, mark := if s.attached r.port then .revoked else .abandoned }).setInbox r.port
        ⟨if s.attached r.port then
            (s.inbox r.port).entries ++ [⟨r.agent, .leaseRevoked ⟨i, (s.lock i).generation⟩⟩]
          else (s.inbox r.port).entries,
          (s.inbox r.port).reserved - 1⟩).evaluate i := by
  unfold State.expireLease
  dsimp only
  rw [h]
  dsimp only
  cases hattached : s.attached r.port with
  | true =>
    rw [State.deliverReserved_of_attached (by simpa using hattached)]
    rfl
  | false =>
    rw [State.deliverReserved_of_departed (by simpa using hattached)]
    rfl

end Sys2Proof.Machine
end

section
/-! PROOFS. ARRIVE, the session unit's commands and the expiries (chapters 3, 5 and 6). -/

open Sys2Proof Sys2Proof.Machine

/-- Settles O37: the branches of `arriveBarrier_eq`; an opening rewrites no entry before it. -/
theorem arriveWaitsOrOpens : Obligations.ArriveWaitsOrOpens := by
  intro p s a hreq r x b
  refine ⟨_, exec_request_of_requests hreq, ?_⟩
  rw [show Command.arrive.owner p a s = _ from arriveBarrier_eq r a.barrier s]
  split_ifs with hmember hbroken harrived hcomplete hfull
  · -- BROKEN
    exact .of_answer s p _
  · -- ARRIVED
    exact .of_answer s p _
  · -- the barrier opens
    have hopened := OpenedFrom.of_openBarrier s a.barrier x
    rw [State.setBarrier_self] at hopened
    have hframe := (BarrierUnitOnly.refl s).openBarrier a.barrier
    exact ⟨hframe.answer p _, hopened, .of_answer (State.openBarrier_units s a.barrier) p _⟩
  · -- INBOX_FULL
    exact .of_answer s p _
  · -- the arrival waits
    exact ⟨rfl, .of_setBarrier s a.barrier _, .of_inboxes_eq rfl, .of_answer rfl p _⟩
  · -- NOT_MEMBER
    exact .of_answer s p _

/-- Settles O41: a DETACHED port starts its next session, any other is answered. -/
theorem attachStartsSession : Obligations.AttachStartsSession := by
  intro p s a hflight r g
  refine ⟨_, exec_attach_of_handed hflight, ?_⟩
  by_cases hstate : r.state = .detached
  · rw [if_neg (not_not.2 hstate), attachPort_of_detached hstate]
    exact ⟨rfl, .of_sessions_eq rfl, .of_poolPorts_eq rfl, .of_answer rfl p _⟩
  · rw [if_pos hstate, attachPort_of_not_detached hstate]
    exact .of_answer s p _

/-- Settles O42: DETACH and a FORCE_DETACH that passes are a departure and an answer. -/
theorem detachAndForceDetachDepart : Obligations.DetachAndForceDetachDepart := by
  refine ⟨fun p s a hreq => ?detach, fun p s a hreq => ?touch, ?forceDetach⟩
  case detach =>
    exact ⟨_, exec_request_of_requests hreq, (DepartedWith.of_depart s p .detach).answer p _,
      (DepartureOnly.depart s p .detach).answer p _, .of_depart hreq.1 _⟩
  case touch => exact ⟨_, exec_request_of_requests hreq, .of_answer s p _⟩
  case forceDetach =>
    intro p s a hreq q answer
    refine ⟨_, exec_request_of_requests hreq, ?_⟩
    rw [show Command.forceDetach.owner p a s = _ from forceDetachPort_eq q s]
    split_ifs with hdetached
    · exact .of_answer s p _
    · refine ⟨(DepartedWith.of_depart s q .forced).answer p _, (DepartureOnly.depart s q .forced).answer p _, ?_,
        fun hqp => ?_, fun k hkp hkq => ?_⟩
      · exact State.depart_answer_unit hreq.1 q .forced answer
      · rw [State.answer_unit, if_neg hqp, s.depart_unit_self]
        exact .of_markDeparted _
      · rw [State.answer_unit, if_neg hkp, s.depart_unit_ne q _ hkq]

/-- Settles O43: the entry is dropped, and the port, which is ATTACHED, departs. -/
theorem keepaliveExpiryDeparts : Obligations.KeepaliveExpiryDeparts := by
  intro s p k rest hlist hattached
  let u : State := { s with deadlines := rest }
  have hexpire : s.dropHeadDeadline.expireKeepalive p = u.depart p .keepalive := by
    rw [State.dropHeadDeadline_eq hlist]
    exact if_pos hattached
  refine ⟨_, exec_keepaliveExpiry_of_due hlist, ?_⟩
  rw [hexpire]
  refine ⟨DepartedWith.of_depart u p .keepalive, ?_, ?_, fun q hq => u.depart_unit_ne p _ hq⟩
  · exact DepartureOnly.depart u p .keepalive
  · rw [u.depart_unit_self]
    exact .of_markDeparted _

/-- Settles O45: the entry is dropped, the record is freed, and its lock is evaluated. -/
theorem waitExpiryEndsWait : Obligations.WaitExpiryEndsWait := by
  intro s i w k rest p b hlist hmem hreserved hunique
  let u : State := { s with deadlines := rest }
  have hexpire : u.expireWait i w.requester = _ := State.expireWait_of_unique (s := u) hmem hunique hreserved
  have hexec := exec_waitExpiry_of_due hlist
  rw [State.dropHeadDeadline_eq hlist] at hexec
  exact ⟨_, hexec.trans (congrArg _ hexpire), .of_freedWith u i w _ _⟩

/-- Settles O46: the entry is dropped, the hold and its reservation end, and the lock is evaluated. -/
theorem leaseExpiryEndsHold : Obligations.LeaseExpiryEndsHold := by
  intro s i r k rest e b hlist hholder
  let u : State := { s with deadlines := rest }
  have hexpire : u.expireLease i = _ := State.expireLease_of_holder (s := u) hholder
  have hexec := exec_leaseExpiry_of_due hlist
  rw [State.dropHeadDeadline_eq hlist] at hexec
  exact ⟨_, hexec.trans (congrArg _ hexpire), rfl, .of_locks_eq rfl, .of_inboxes_eq rfl⟩
end

section
/-! PROOFS. The sweep, said once (chapter 7): the discard of a port's records as one event, the end of its holds on a lock,
its barrier visit, and the final step. -/

namespace Sys2Proof.Machine

/-! ### The records of a swept port (R136) -/

/-- From `s` to `t`, the records of the list, all of them port `p`'s, have left lock `i`'s queue with their deadlines and
reservations. Nothing else has changed. -/
def RecordsDiscarded (p : Port) (i : LockIndex) (l : List WaiterRecord) (s t : State) : Prop :=
  t = { s with
    locks := t.locks, poolPorts := t.poolPorts, inboxes := t.inboxes
    freeRecords := s.freeRecords + l.length
    deadlines := s.deadlines.filter fun d => l.all fun w => d.object != .wait i w.requester } ∧
  OnlyLock i { s.lock i with queue := (s.lock i).queue.diff l } s t ∧
  OnlyPool p { s.pool p with count := (s.pool p).count - l.length } s t ∧
  OnlyInbox p { s.inbox p with reserved := (s.inbox p).reserved - (l.map (·.reservations)).sum } s t

theorem RecordsDiscarded.nil (p : Port) (i : LockIndex) (s : State) : RecordsDiscarded p i [] s s := by
  refine ⟨?_, ⟨?_, fun _ _ => rfl⟩, ⟨?_, fun _ _ => rfl⟩, ⟨?_, fun _ _ => rfl⟩⟩ <;> simp

theorem RecordsDiscarded.cons {w : WaiterRecord} {i : LockIndex} {l : List WaiterRecord} {s t : State}
    (h : RecordsDiscarded w.requester.port i l (s.discardRecord i w) t) :
    RecordsDiscarded w.requester.port i (w :: l) s t := by
  obtain ⟨-, hlock, hpool, hinbox⟩ := RecordFreed.of_discardRecord s i w
  obtain ⟨hrest, hlocks, hpools, hinboxes⟩ := h
  refine ⟨hrest.trans ?_, ⟨?_, fun j hj => (hlocks.2 j hj).trans (hlock.2 j hj)⟩,
    ⟨?_, fun q hq => (hpools.2 q hq).trans (hpool.2 q hq)⟩, ⟨?_, fun q hq => (hinboxes.2 q hq).trans (hinbox.2 q hq)⟩⟩
  · have hcount : (s.discardRecord i w).freeRecords + l.length = s.freeRecords + (w :: l).length := by
      rw [List.length_cons, show (s.discardRecord i w).freeRecords = s.freeRecords + 1 from rfl]
      omega
    have hdeadlines :
        ((s.discardRecord i w).deadlines.filter fun d => l.all fun x => d.object != .wait i x.requester) =
          s.deadlines.filter fun d => (w :: l).all fun x => d.object != .wait i x.requester := by
      simp only [show (s.discardRecord i w).deadlines = s.deadlines.filter fun d => d.object != .wait i w.requester from rfl,
        List.filter_filter, List.all_cons, Bool.and_comm]
    rw [hcount, hdeadlines]
    rfl
  · rw [hlocks.1, hlock.1, List.diff_cons]
  · rw [hpools.1, hpool.1, List.length_cons, Nat.sub_sub, Nat.add_comm]
  · rw [hinboxes.1, hinbox.1, List.map_cons, List.sum_cons, Nat.sub_sub]

theorem RecordsDiscarded.of_foldl {p : Port} (i : LockIndex) (l : List WaiterRecord)
    (h : ∀ w ∈ l, w.requester.port = p) (s : State) :
    RecordsDiscarded p i l s (l.foldl (fun t w => t.discardRecord i w) s) := by
  induction l generalizing s with
  | nil => exact .nil p i s
  | cons w l ih =>
    obtain rfl := h w List.mem_cons_self
    exact .cons (ih (fun x hx => h x (List.mem_cons_of_mem w hx)) _)

theorem List.diff_filter_self (q : List WaiterRecord) (f : WaiterRecord → Bool) :
    q.diff (q.filter f) = q.filter fun w => !f w := by
  induction q with
  | nil => rfl
  | cons w q ih =>
    by_cases hw : f w = true
    · simp [hw, ih]
    · have hnot : w ∉ q.filter f := fun hmem => hw (List.mem_filter.1 hmem).2
      simp [hw, List.cons_diff, hnot, ih]

theorem RecordsDiscarded.of_sweepRecords (s : State) (p : Port) (i : LockIndex) :
    RecordsDiscarded p i ((s.lock i).queue.filter fun w => w.requester.port == p) s (s.sweepRecords p i) :=
  .of_foldl i _ (fun w hw => by simpa using (List.mem_filter.1 hw).2) s

/-- R136: no record of the swept port is left in the queue. -/
theorem State.sweepRecords_lock_self (s : State) (p : Port) (i : LockIndex) :
    (s.sweepRecords p i).lock i =
      { s.lock i with queue := (s.lock i).queue.filter fun w => w.requester.port != p } := by
  obtain ⟨-, ⟨hlock, -⟩, -⟩ := RecordsDiscarded.of_sweepRecords s p i
  rw [hlock, List.diff_filter_self]
  rfl

/-! ### The lock visit (R136, R137) -/

/-- The exclusive holder is port `p`'s. -/
def LockEntry.exclusiveOf (e : LockEntry) (p : Port) : Bool := e.exclusiveHolder.any fun r => r.port == p

/-- R136, R137: lock `i` without port `p`'s records, holds and allocation, before its evaluation. -/
def State.clearLock (s : State) (p : Port) (i : LockIndex) : State :=
  let t := s.sweepRecords p i
  let t := if (s.lock i).exclusiveOf p then t.endLease i p else t
  t.setLock i ((t.lock i).sweptOf p)

theorem State.visitLock_eq (s : State) (p : Port) (i : LockIndex) :
    s.visitLock p i = if (s.lock i).holdsOrWaits p then (s.clearLock p i).evaluate i else s.clearLock p i :=
  rfl

theorem LockEntry.holdsOrWaits_iff (e : LockEntry) (p : Port) :
    e.holdsOrWaits p = true ↔
      (e.queue.filter fun w => w.requester.port == p) ≠ [] ∨ e.exclusiveOf p = true ∨ ∃ r ∈ e.sharedHolders, r.port = p := by
  simp [LockEntry.holdsOrWaits, LockEntry.exclusiveOf, or_assoc, List.filter_eq_nil_iff]

theorem queuesOnly_clearLock (s : State) (p : Port) (i : LockIndex) : QueuesOnly s (s.clearLock p i) := by
  rw [queuesOnly_iff]
  unfold State.clearLock
  split_ifs <;> simp

/-- R136: the lease that ends with an exclusive hold of the port: its deadline goes and one reservation is dropped. -/
theorem State.clearLock_of_lease {s : State} {p : Port} {i : LockIndex}
    (h : ((s.lock i).exclusiveOf p && (s.lock i).leasePeriod != 0) = true) :
    s.clearLock p i =
      ((s.sweepRecords p i).removeDeadline (.lease i) |>.dropReservations p 1).setLock i
        (((s.sweepRecords p i).lock i).sweptOf p) := by
  rw [Bool.and_eq_true, bne_iff_ne] at h
  have hperiod : ¬ ((s.sweepRecords p i).lock i).leasePeriod = 0 := by rw [s.sweepRecords_lock_self]; exact h.2
  simp only [State.clearLock, h.1, if_true, State.endLease, if_neg hperiod]
  rfl

theorem State.clearLock_of_no_lease {s : State} {p : Port} {i : LockIndex}
    (h : ((s.lock i).exclusiveOf p && (s.lock i).leasePeriod != 0) = false) :
    s.clearLock p i = (s.sweepRecords p i).setLock i (((s.sweepRecords p i).lock i).sweptOf p) := by
  unfold State.clearLock
  by_cases hexclusive : (s.lock i).exclusiveOf p = true
  · have hperiod : ((s.sweepRecords p i).lock i).leasePeriod = 0 := by
      rw [s.sweepRecords_lock_self]
      simpa [hexclusive] using h
    simp only [hexclusive, if_true, State.endLease, if_pos hperiod]
  · simp only [if_neg hexclusive]

theorem State.clearLock_lock_self (s : State) (p : Port) (i : LockIndex) :
    (s.clearLock p i).lock i =
      ({ s.lock i with
        queue := (s.lock i).queue.filter fun w => w.requester.port != p } : LockEntry).sweptOf p := by
  unfold State.clearLock
  rw [State.setLock_lock_self]
  split_ifs <;> simp [State.sweepRecords_lock_self]

theorem State.clearLock_lock_ne (s : State) (p : Port) {i j : LockIndex} (h : j ≠ i) :
    (s.clearLock p i).lock j = s.lock j := by
  obtain ⟨-, ⟨-, hother⟩, -⟩ := RecordsDiscarded.of_sweepRecords s p i
  unfold State.clearLock
  rw [State.setLock_lock_ne _ _ _ _ h]
  split_ifs <;> simp [hother j h]

/-- The records of port `p` in lock `i`'s queue. -/
def State.recordsOf (s : State) (p : Port) (i : LockIndex) : List WaiterRecord :=
  (s.lock i).queue.filter fun w => w.requester.port == p

/-- Port `p` holds lock `i` under a lease. -/
def State.leaseOf (s : State) (p : Port) (i : LockIndex) : Bool :=
  (s.lock i).exclusiveOf p && (s.lock i).leasePeriod != 0

theorem OnlyPool.of_clearLock (s : State) (p : Port) (i : LockIndex) :
    OnlyPool p { s.pool p with count := (s.pool p).count - (s.recordsOf p i).length } s (s.clearLock p i) := by
  obtain ⟨-, -, hpool, -⟩ := RecordsDiscarded.of_sweepRecords s p i
  have hsame : ∀ q, (s.clearLock p i).pool q = (s.sweepRecords p i).pool q := by
    intro q
    unfold State.clearLock
    split_ifs <;> simp
  exact ⟨(hsame p).trans hpool.1, fun q hq => (hsame q).trans (hpool.2 q hq)⟩

theorem State.clearLock_freeRecords (s : State) (p : Port) (i : LockIndex) :
    (s.clearLock p i).freeRecords = s.freeRecords + (s.recordsOf p i).length := by
  obtain ⟨hframe, -⟩ := RecordsDiscarded.of_sweepRecords s p i
  have hsame : (s.clearLock p i).freeRecords = (s.sweepRecords p i).freeRecords := by
    unfold State.clearLock
    split_ifs <;> simp
  exact hsame.trans (congrArg State.freeRecords hframe)

theorem OnlyInbox.of_clearLock (s : State) (p : Port) (i : LockIndex) :
    OnlyInbox p
      { s.inbox p with
        reserved := (s.inbox p).reserved - ((s.recordsOf p i).map (·.reservations)).sum -
          (if s.leaseOf p i then 1 else 0) } s (s.clearLock p i) := by
  obtain ⟨-, -, -, hinbox⟩ := RecordsDiscarded.of_sweepRecords s p i
  cases hlease : s.leaseOf p i with
  | true =>
    rw [State.clearLock_of_lease hlease]
    refine ⟨?_, fun q hq => ?_⟩
    · simp [State.dropReservations, hinbox.1, State.recordsOf]
    · simp [State.dropReservations, hq, hinbox.2 q hq]
  | false =>
    rw [State.clearLock_of_no_lease hlease]
    exact hinbox

theorem State.clearLock_deadlines (s : State) (p : Port) (i : LockIndex) :
    (s.clearLock p i).deadlines = s.deadlines.filter fun d =>
      ((s.recordsOf p i).all fun w => d.object != .wait i w.requester) && (!s.leaseOf p i || d.object != .lease i) := by
  obtain ⟨hframe, -⟩ := RecordsDiscarded.of_sweepRecords s p i
  have hrecords : (s.sweepRecords p i).deadlines = s.deadlines.filter fun d =>
      (s.recordsOf p i).all fun w => d.object != .wait i w.requester := congrArg State.deadlines hframe
  cases hlease : s.leaseOf p i with
  | true =>
    have hremoved : (s.clearLock p i).deadlines =
        (s.sweepRecords p i).deadlines.filter fun d => d.object != .lease i := by
      rw [State.clearLock_of_lease hlease]
      rfl
    simp only [hremoved, hrecords, List.filter_filter, Bool.not_true, Bool.false_or, Bool.and_comm]
  | false =>
    rw [State.clearLock_of_no_lease hlease]
    simp [hrecords]

/-! ### The barrier visit (R108, R139) -/

/-- The barrier without port `p`'s members and arrivals. -/
def Barrier.without (x : Barrier) (p : Port) : Barrier :=
  { x with members := x.members.filter fun r => r.port != p, arrived := x.arrived.filter fun r => r.port != p }

theorem State.visitBarrier_eq (s : State) (p : Port) (b : BarrierIndex) :
    s.visitBarrier p b =
      if ∀ r ∈ (s.barrier b).members, r.port ≠ p then s
      else if (s.barrier b).arrived = [] then
        s.setBarrier b
          { (s.barrier b).without p with
            state := if ((s.barrier b).without p).members = [] then .idle else (s.barrier b).state }
      else
        ((s.setBarrier b ((s.barrier b).without p)).dropReservations p
          ((s.barrier b).arrived.filter fun r => r.port == p).length).breakRound b p := by
  have hmine : (s.barrier b).members.any (fun r => r.port == p) = false ↔ ∀ r ∈ (s.barrier b).members, r.port ≠ p := by
    simp
  simp only [State.visitBarrier, hmine, List.isEmpty_iff]
  rfl

/-- R104: a break behind the rewriting of the barrier's entry, as one event from the state before both. -/
theorem BrokenFrom.of_setBarrier_breakRound (s : State) (b : BarrierIndex) (x : Barrier) (c : Port) :
    BrokenFrom b x c s ((s.setBarrier b x).breakRound b c) := by
  obtain ⟨⟨hentry, hothers⟩, hdelivered⟩ := BrokenFrom.of_breakRound (s.setBarrier b x) b c
  rw [State.setBarrier_barrier_self] at hentry hdelivered
  exact ⟨⟨hentry, fun k hk => (hothers k hk).trans (s.setBarrier_barrier_ne b x k hk)⟩, hdelivered⟩

/-! ### The final step (R140) -/

theorem State.reportSweepEnd_departureQueue (s : State) (p : Port) :
    (s.reportSweepEnd p).departureQueue = s.departureQueue := rfl

theorem State.reportSweepEnd_session (s : State) (p q : Port) :
    (s.reportSweepEnd p).session q = (s.session q).afterSweepOf p q := by
  simp [State.session, State.reportSweepEnd]

theorem State.nextSweep_of_empty {s : State} (h : s.departureQueue = []) : s.nextSweep = { s with engine := .idle } := by
  simp only [State.nextSweep, h]

theorem State.nextSweep_of_head {s : State} {q : Port} {rest : List Port} (h : s.departureQueue = q :: rest) :
    s.nextSweep =
      { s.setSession q { s.session q with state := .sweeping } with engine := .busy q (.locks 0), departureQueue := rest } := by
  simp only [State.nextSweep, h]

theorem State.nextSweep_frame (s : State) :
    s.nextSweep =
      { s with sessions := s.nextSweep.sessions, engine := s.nextSweep.engine, departureQueue := s.departureQueue.tail } := by
  cases h : s.departureQueue with
  | nil => rw [State.nextSweep_of_empty h, List.tail_nil, ← h]
  | cons q rest => rw [State.nextSweep_of_head h]; rfl

/-- The next port's session record, and only that, becomes SWEEPING. -/
theorem State.nextSweep_session (s : State) (q : Port) :
    s.nextSweep.session q =
      if s.departureQueue.head? = some q then { s.session q with state := .sweeping } else s.session q := by
  cases h : s.departureQueue with
  | nil => rw [State.nextSweep_of_empty h]; rfl
  | cons k rest =>
    rw [State.nextSweep_of_head h]
    refine (s.setSession_session k _ q).trans ?_
    by_cases hk : q = k
    · subst hk
      simp
    · simp [hk, Ne.symm hk]

theorem State.attached_iff (s : State) (p : Port) : s.attached p = true ↔ (s.session p).state = .attached := by
  simp [State.attached]

theorem SweepQueueSound.swept_state {s : State} (h : SweepQueueSound s) {p : Port} {pos : Position}
    (hengine : s.engine = .busy p pos) : (s.session p).state = .sweeping :=
  (h.1 p).2 (congrArg Engine.port hengine)

/-- R132: the port being swept is not ATTACHED. -/
theorem SweepQueueSound.swept_not_attached {s : State} (h : SweepQueueSound s) {p : Port} {pos : Position}
    (hengine : s.engine = .busy p pos) : s.attached p = false := by
  simp [State.attached, h.swept_state hengine]

/-- R133: a port in the departure queue is PENDING_SWEEP. -/
theorem SweepQueueSound.queued_state {s : State} (h : SweepQueueSound s) {q : Port} (hq : q ∈ s.departureQueue) :
    (s.session q).state = .pendingSweep :=
  (h.2.1 q).2 hq

end Sys2Proof.Machine
end

section
/-! PROOFS. The sweep engine's events (chapter 7). -/

open Sys2Proof Sys2Proof.Machine

/-- Settles O47: the visit clears the lock, and evaluates it where it removed a record or a hold. -/
theorem lockVisitClearsPort : Obligations.LockVisitClearsPort := by
  intro s p i hengine e records exclusive lease removes next
  have hremoves : e.holdsOrWaits p = true ↔ removes := e.holdsOrWaits_iff p
  refine ⟨_, s.clearLock p i, exec_lockVisit_of_busy hengine, fun h => ?_, fun h => ?_, ⟨?_, fun j hj => ?_⟩,
    .of_clearLock s p i, .of_clearLock s p i, (queuesOnly_clearLock s p i).trans ?_⟩
  · rw [State.visitLock_eq, if_pos (hremoves.2 h)]
    rfl
  · rw [State.visitLock_eq, if_neg (mt hremoves.1 h)]
    rfl
  · exact s.clearLock_lock_self p i
  · exact s.clearLock_lock_ne p hj
  · rw [s.clearLock_freeRecords, s.clearLock_deadlines]
    rfl

/-- Settles O48: the three ways of `State.visitBarrier_eq`. -/
theorem barrierVisitClearsPort : Obligations.BarrierVisitClearsPort := by
  intro s p b hengine x y next
  refine ⟨_, exec_barrierVisit_of_busy hengine, ?_⟩
  rw [State.visitBarrier_eq]
  by_cases hnone : ∀ r ∈ x.members, r.port ≠ p
  · rw [if_pos hnone, if_pos hnone]
    rfl
  by_cases hempty : x.arrived = []
  · rw [if_neg hnone, if_neg hnone, if_pos hempty, if_pos hempty]
    exact ⟨rfl, .of_setBarrier s b _⟩
  · rw [if_neg hnone, if_neg hnone, if_neg hempty, if_neg hempty]
    let n := (x.arrived.filter fun r => r.port == p).length
    let v := ((s.dropReservations p n).setBarrier b y).breakRound b p
    have hframe : BarrierUnitOnly s v :=
      .breakRound (.setBarrier (show BarrierUnitOnly s (s.dropReservations p n) from rfl) b y) b p
    have hunits : v.units = s.units := by simp [v]
    have hv : v = { s with barriers := v.barriers, inboxes := v.inboxes } := hframe.trans (by rw [hunits])
    exact ⟨congrArg (fun u => { u with engine := .busy p next }) hv, s.dropReservations p n, rfl,
      .of_inboxes_eq rfl, .of_setBarrier_breakRound (s.dropReservations p n) b y p⟩

/-- Settles O49: the session records by the report of the sweep's end, then by the next port's turn. -/
theorem finalStepEndsSweep : Obligations.FinalStepEndsSweep := by
  intro s p hengine hsound
  refine ⟨_, exec_finalStep_of_busy hengine, ?_⟩
  have hframe := (s.reportSweepEnd p).nextSweep_frame
  refine ⟨hframe, fun hempty => ?_, fun q rest hhead => ?_, fun q => ?_⟩
  · rw [State.nextSweep_of_empty (s := s.reportSweepEnd p) hempty]
  · rw [State.nextSweep_of_head (s := s.reportSweepEnd p) hhead]
  · simp only [State.nextSweep_session, State.reportSweepEnd_session, State.reportSweepEnd_departureQueue,
      Session.afterSweepOf, ← State.attached_iff]
    by_cases hqueued : s.departureQueue.head? = some q
    · -- the next port is PENDING_SWEEP, so it is neither the swept one nor ATTACHED
      have hstate : (s.session q).state = .pendingSweep := hsound.queued_state (List.mem_of_head? hqueued)
      have hother : q ≠ p := by
        rintro rfl
        exact absurd (hstate.symm.trans (hsound.swept_state hengine)) (by decide)
      have hnot : ¬ s.attached q = true := by rw [State.attached_iff, hstate]; decide
      simp only [if_pos hqueued, if_neg hother, if_neg hnot]
    · simp only [if_neg hqueued]
end

section
/-! PROOFS. Port reset, the layouts of words, and the window as it reads, said once (chapters 6, 8 and 9). -/

namespace Sys2Proof.Machine

/-! ### Port reset (R125) -/

theorem OnlyInterface.of_interfaces_eq {s t : State} {p : Port} {x : PortInterface}
    (h : t.interfaces = (s.setInterface p x).interfaces) : OnlyInterface p x s t := by
  have hinterface : ∀ k, t.interface k = (s.setInterface p x).interface k := fun k => by simp only [State.interface, h]
  exact ⟨(hinterface p).trans (s.setInterface_interface_self p x),
    fun q hq => (hinterface q).trans (s.setInterface_interface_ne p x q hq)⟩

theorem WindowReset.of_resetWindow (s : State) (p : Port) : WindowReset p (s.session p) s (s.resetWindow p) :=
  ⟨.of_interfaces_eq rfl, .of_units_eq rfl, .of_poolPorts_eq rfl, .of_sessions_eq rfl⟩

theorem State.resetPort_of_attached {s : State} {p : Port} (h : s.attached p = true) :
    s.resetPort p = (s.depart p .portReset).resetWindow p := by
  simp only [State.resetPort, h, if_true]

theorem State.resetPort_of_not_attached {s : State} {p : Port} (h : s.attached p = false) :
    s.resetPort p = s.resetWindow p := by
  simp only [State.resetPort, h, Bool.false_eq_true, if_false]

theorem State.resetPort_prstLow (s : State) (p : Port) : (s.resetPort p).prstLow = s.prstLow := by
  cases hattached : s.attached p with
  | true =>
    rw [State.resetPort_of_attached hattached]
    exact s.depart_prstLow p .portReset
  | false =>
    rw [State.resetPort_of_not_attached hattached]
    rfl

theorem State.resetPort_held (s : State) (p q : Port) : (s.resetPort p).held q = s.held q := by
  simp only [State.held, s.resetPort_prstLow p]

theorem PortWasReset.of_resetPort (s : State) (p : Port) : PortWasReset p s (s.resetPort p) := by
  cases hattached : s.attached p with
  | true =>
    rw [State.resetPort_of_attached hattached]
    exact ⟨s.depart p .portReset, fun h => absurd (hattached.symm.trans h) (by decide),
      fun _ => ⟨.of_depart s p _, fun q hq => s.depart_unit_ne p _ hq, DepartureOnly.depart s p _⟩,
      .of_resetWindow _ p, rfl⟩
  | false =>
    rw [State.resetPort_of_not_attached hattached]
    exact ⟨s, fun _ => rfl, fun h => absurd (hattached.symm.trans h) (by decide), .of_resetWindow s p, rfl⟩

/-- The level of a pin is no part of what a port reset leaves. -/
theorem PortWasReset.setHeld {p : Port} {s t : State} (h : PortWasReset p s t) (low : Bool) :
    PortWasReset p s (t.setHeld p low) := by
  obtain ⟨u, hdetached, hattached, hwindow, hframe⟩ := h
  exact ⟨u, hdetached, hattached, hwindow, congrArg (State.setHeld · p low) hframe⟩

theorem exec_portReset_of_edge {s : State} {p : Port} (hreset : s.resetLow = false) (hheld : s.held p = false) :
    exec (.portReset p) s = .next ((s.resetPort p).setHeld p true) := by
  change execPortReset p s = _
  simp only [execPortReset, hreset, hheld, Bool.false_eq_true, if_false]

theorem exec_portReset_of_held {s : State} {p : Port} (hheld : s.held p = true) : exec (.portReset p) s = .next s := by
  change execPortReset p s = _
  simp only [execPortReset, hheld, if_true]

theorem exec_portReset_of_reset {s : State} {p : Port} (hreset : s.resetLow = true) (hheld : s.held p = false) :
    exec (.portReset p) s = .next (s.setHeld p true) := by
  change execPortReset p s = _
  simp only [execPortReset, hreset, hheld, Bool.false_eq_true, if_false, if_true]

/-! ### Words by their fields (R168 to R173) -/

theorem toNat_fieldAt {v lo len : Nat} (hv : v < 2 ^ len) (hfit : lo + len ≤ 16) :
    (fieldAt v lo len).toNat = 2 ^ lo * v := by
  have hlt : 2 ^ lo * v < 2 ^ 16 :=
    calc 2 ^ lo * v < 2 ^ lo * 2 ^ len := Nat.mul_lt_mul_of_pos_left hv (Nat.two_pow_pos lo)
      _ = 2 ^ (lo + len) := (Nat.pow_add ..).symm
      _ ≤ 2 ^ 16 := Nat.pow_le_pow_right (by decide) hfit
  rw [fieldAt_eq hv, BitVec.toNat_ofNat, Nat.mod_eq_of_lt hlt]

theorem bitNat_lt (b : Bool) : bitNat b < 2 ^ 1 := by cases b <;> decide

theorem PortState.code_lt (x : PortState) : x.code < 2 ^ 2 := by cases x <;> decide

theorem Cause.code_lt (x : Cause) : x.code < 2 ^ 3 := by cases x <;> decide

/-- R169: the handle word is the index above the generation. -/
theorem Handle.toWord_toNat (h : Handle) : h.toWord.toNat = h.index.val * 1024 + h.generation.toNat := by
  have hindex := h.index.isLt
  have hgen := h.generation.isLt
  rw [Handle.toWord, BitVec.or_comm, fieldAt_eq hgen, ofNat_or_fieldAt (by omega) (show h.index.val < 2 ^ 6 by omega),
    BitVec.toNat_ofNat]
  omega

/-! ### The words of the window (R164, R168) -/

theorem State.pstateWord_toNat (s : State) (p : Port) :
    (s.pstateWord p).toNat =
      (s.session p).state.code + 4 * p.val + 16 * bitNat (p == s.supervisor) + 32 * (s.session p).lastCause.code +
        256 * (s.session p).generation.toNat := by
  have hstate := (s.session p).state.code_lt
  have hport := p.isLt
  have hsupervisor := bitNat_lt (p == s.supervisor)
  have hcause := (s.session p).lastCause.code_lt
  have hgen := (s.session p).generation.isLt
  simp only [State.pstateWord]
  rw [fieldAt_eq hstate, ofNat_or_fieldAt (by omega) (show p.val < 2 ^ 2 by omega), ofNat_or_fieldAt (by omega) hsupervisor,
    ofNat_or_fieldAt (by omega) hcause, ofNat_or_fieldAt (by omega) hgen, BitVec.toNat_ofNat]
  omega

theorem CommandUnit.cmdWord_toNat (u : CommandUnit) :
    u.cmdWord.toNat = u.lastCode.toNat + 32768 * bitNat u.inFlight.isSome := by
  have hcode := u.lastCode.isLt
  have hbusy := bitNat_lt u.inFlight.isSome
  rw [CommandUnit.cmdWord, CommandUnit.busy, BitVec.or_comm, fieldAt_eq hcode, ofNat_or_fieldAt (by omega) hbusy,
    BitVec.toNat_ofNat]
  omega

theorem Inbox.countWord_toNat {b : Inbox} (hentries : b.entries.length ≤ 16) (hreserved : b.reserved ≤ 16) :
    b.countWord.toNat = b.entries.length + 256 * b.reserved := by
  rw [Inbox.countWord, fieldAt_eq (show b.entries.length < 2 ^ 5 by omega),
    ofNat_or_fieldAt (by omega) (show b.reserved < 2 ^ 5 by omega), BitVec.toNat_ofNat]
  omega

theorem CommandUnit.istatWord_toNat (u : CommandUnit) :
    u.istatWord.toNat = 4 * bitNat u.completion + 8 * bitNat u.overrun := by
  have hcompletion := bitNat_lt u.completion
  have hoverrun := bitNat_lt u.overrun
  rw [CommandUnit.istatWord, fieldAt_eq hcompletion, ofNat_or_fieldAt (by omega) hoverrun, BitVec.toNat_ofNat]
  omega

theorem Position.stageAndIndex_lt (pos : Position) : pos.stageAndIndex.1 < 2 ^ 2 ∧ pos.stageAndIndex.2 < 2 ^ 6 := by
  cases pos with
  | locks i => exact ⟨show 0 < 2 ^ 2 by decide, i.isLt⟩
  | barriers b => exact ⟨show 1 < 2 ^ 2 by decide, b.isLt.trans (by decide)⟩
  | final => decide

theorem State.sweepWord_toNat {s : State} {q : Port} {pos : Position} (hengine : s.engine = .busy q pos)
    (hqueue : s.departureQueue.length ≤ 3) :
    s.sweepWord.toNat =
      pos.stageAndIndex.2 + 64 * pos.stageAndIndex.1 + 256 * q.val + 1024 * s.departureQueue.length + 32768 := by
  obtain ⟨hstage, hindex⟩ := pos.stageAndIndex_lt
  have hport := q.isLt
  simp only [State.sweepWord, hengine]
  rw [fieldAt_eq hindex, ofNat_or_fieldAt (by omega) hstage, ofNat_or_fieldAt (by omega) (show q.val < 2 ^ 2 by omega),
    ofNat_or_fieldAt (by omega) (show s.departureQueue.length < 2 ^ 2 by omega),
    ofNat_or_fieldAt (by omega) (show 1 < 2 ^ 1 by decide), BitVec.toNat_ofNat]
  omega

/-! ### The words of the head entry (R173) -/

theorem EntryBody.head3_granted_toNat (h : Handle) (m : Mode) (t : BitVec 8) (k : Mark) :
    (EntryBody.granted h m t k).head3.toNat = t.toNat + 256 * m.code + 1024 * k.code := by
  have hticket := t.isLt
  have hmode := m.code_lt
  have hmark := k.code_lt
  rw [EntryBody.head3, fieldAt_eq hticket, ofNat_or_fieldAt (by omega) hmode, ofNat_or_fieldAt (by omega) hmark,
    BitVec.toNat_ofNat]
  omega

theorem EntryBody.head3_waitExpired_toNat (h : Handle) (m : Mode) (t : BitVec 8) :
    (EntryBody.waitExpired h m t).head3.toNat = t.toNat + 256 * m.code := by
  have hticket := t.isLt
  have hmode := m.code_lt
  rw [EntryBody.head3, fieldAt_eq hticket, ofNat_or_fieldAt (by omega) hmode, BitVec.toNat_ofNat]
  omega

theorem EntryBody.head2_note_toNat (sp : Port) (sa : Agent) (tag : BitVec 8) (d : BitVec 32) :
    (EntryBody.note sp sa tag d).head2.toNat = sp.val + 16 * sa.val + 256 * tag.toNat := by
  have hport := sp.isLt
  have hagent := sa.isLt
  have htag := tag.isLt
  rw [EntryBody.head2, fieldAt_eq (show sp.val < 2 ^ 2 by omega), ofNat_or_fieldAt (by omega) hagent,
    ofNat_or_fieldAt (by omega) htag, BitVec.toNat_ofNat]
  omega

theorem EntryBody.head_note_data_toNat (sp : Port) (sa : Agent) (tag : BitVec 8) (d : BitVec 32) :
    (EntryBody.note sp sa tag d).head3.toNat = d.toNat % 65536 ∧
      (EntryBody.note sp sa tag d).head4.toNat = d.toNat / 65536 := by
  have hdata := d.isLt
  simp only [EntryBody.head3, EntryBody.head4, BitVec.extractLsb'_toNat, Nat.shiftRight_eq_div_pow]
  omega

/-- R162: an enabled condition holds where the enables and the conditions share a bit. -/
theorem enables_and_conditions : ∀ (e : BitVec 4) (b0 b1 b2 b3 : Bool),
    ((e &&& BitVec.ofNat 4 (bitNat b0 + 2 * bitNat b1 + 4 * bitNat b2 + 8 * bitNat b3)) != 0) =
      ((e.getLsbD 0 && b0) || (e.getLsbD 1 && b1) || (e.getLsbD 2 && b2) || (e.getLsbD 3 && b3)) := by
  decide

theorem State.intn_iff {s : State} (hreset : s.resetLow = false) (p : Port) :
    s.intn p = true ↔
      ((s.interface p).enables.getLsbD 0 = true ∧ (s.inbox p).entries ≠ []) ∨
        ((s.interface p).enables.getLsbD 1 = true ∧ (s.session p).summary ≠ 0) ∨
          ((s.interface p).enables.getLsbD 2 = true ∧ (s.unit p).completion = true) ∨
            ((s.interface p).enables.getLsbD 3 = true ∧ (s.unit p).overrun = true) := by
  rw [State.intn, State.conditions, enables_and_conditions, hreset]
  simp [or_assoc]

/-- A port that answers reads its window. -/
theorem State.readWord_of_high {s : State} {p : Port} (hreset : s.resetLow = false) (hheld : s.held p = false)
    (off : Offset) : s.readWord p off = s.windowWord p off :=
  if_pos ((s.takesBus_iff p).2 ⟨hreset, hheld⟩)

end Sys2Proof.Machine
end

section
/-! PROOFS. Port reset and the words of the window (chapters 6, 8 and 9). -/

open Sys2Proof Sys2Proof.Machine

/-- Settles O54: the pin's edge, the write of a one and of a zero, and the edges that are no port reset. -/
theorem portResetResetsWindow : Obligations.PortResetResetsWindow := by
  intro p s
  refine ⟨fun hreset hheld => ?_, fun hreset hheld v => ⟨fun hone => ?_, fun hzero => ?_⟩, exec_portReset_of_held,
    fun hreset hheld => ?_, s.setHeld p false, rfl, rfl, s.setHeld_levels p false⟩
  · obtain ⟨hself, hothers⟩ := (s.resetPort p).setHeld_levels p true
    exact ⟨_, exec_portReset_of_edge hreset hheld, (PortWasReset.of_resetPort s p).setHeld true, hself,
      fun q hq => (hothers q hq).trans (s.resetPort_held p q)⟩
  · refine ⟨s.resetPort p, ?_, .of_resetPort s p, s.resetPort_prstLow p⟩
    rw [exec_of_busWrite_taken rfl hreset hheld]
    exact congrArg Host.Outcome.next (if_pos hone)
  · rw [exec_of_busWrite_taken rfl hreset hheld]
    exact congrArg Host.Outcome.next (if_neg (by rw [hzero]; decide))
  · exact ⟨_, exec_portReset_of_reset hreset hheld, rfl, s.setHeld_levels p true⟩

/-- Settles O56: each word of the window, by its fields. -/
theorem windowShowsState : Obligations.WindowShowsState := by
  intro s p hreset hheld r u b f bit
  simp only [State.readWord_of_high hreset hheld]
  refine ⟨rfl, s.pstateWord_toNat p, rfl, rfl, rfl, rfl, u.cmdWord_toNat, rfl, rfl, rfl, rfl, Inbox.countWord_toNat,
    rfl, BitVec.toNat_setWidth_of_le (by decide), BitVec.toNat_setWidth_of_le (by decide), u.istatWord_toNat, rfl,
    fun hcap => ?cap, rfl, rfl, rfl, rfl, fun hnone => ?noSweep, fun q pos hsupervisor hengine hqueue => ?sweep,
    fun hrecords => ?records, fun hlocks => ?locks, rfl, rfl, State.intn_iff hreset p⟩
  case cap => exact (toNat_fieldAt (by omega) (by decide)).trans (one_mul _)
  case records => exact (toNat_fieldAt (by omega) (by decide)).trans (one_mul _)
  case locks => exact (toNat_fieldAt (by omega) (by decide)).trans (one_mul _)
  case noSweep =>
    change (if p = s.supervisor then s.sweepWord else 0) = 0
    split_ifs with hsupervisor
    · have hidle := hnone.resolve_left (not_not.2 hsupervisor)
      simp only [State.sweepWord, hidle]
    · rfl
  case sweep =>
    have hword : s.windowWord p 0x1B = s.sweepWord := if_pos hsupervisor
    rw [hword, State.sweepWord_toNat hengine hqueue]
    cases pos <;> rfl

/-- Settles O57: the head words by the kind of the entry at the head. -/
theorem headWordsShowEntry : Obligations.HeadWordsShowEntry := by
  intro s p hreset hheld words
  have hwords : ∀ kind agent h2 h3 h4 : Nat, words kind agent h2 h3 h4 ↔
      (headWord (s.inbox p).entries 0).toNat = kind ∧ (headWord (s.inbox p).entries 1).toNat = agent ∧
        (headWord (s.inbox p).entries 2).toNat = h2 ∧ (headWord (s.inbox p).entries 3).toNat = h3 ∧
          (headWord (s.inbox p).entries 4).toNat = h4 := by
    intro kind agent h2 h3 h4
    simp only [words, State.readWord_of_high hreset hheld]
    rfl
  simp only [hwords]
  cases hentries : (s.inbox p).entries with
  | nil => exact ⟨rfl, rfl, rfl, rfl, rfl⟩
  | cons e rest =>
    obtain ⟨g, body⟩ := e
    have hagent : (fieldAt g.val 0 3).toNat = g.val := (toNat_fieldAt g.isLt (by decide)).trans (one_mul _)
    have hbarrier : ∀ b : BarrierIndex, (fieldAt b.val 0 3).toNat = b.val := fun b =>
      (toNat_fieldAt b.isLt (by decide)).trans (one_mul _)
    have hphase : ∀ ph : BitVec 8, (ph.setWidth 16).toNat = ph.toNat := fun ph =>
      BitVec.toNat_setWidth_of_le (by decide)
    cases body with
    | granted h m t k => exact ⟨rfl, hagent, h.toWord_toNat, EntryBody.head3_granted_toNat h m t k, rfl⟩
    | waitExpired h m t => exact ⟨rfl, hagent, h.toWord_toNat, EntryBody.head3_waitExpired_toNat h m t, rfl⟩
    | leaseRevoked h => exact ⟨rfl, hagent, h.toWord_toNat, rfl, rfl⟩
    | note sp sa tag d =>
      obtain ⟨hlow, hhigh⟩ := EntryBody.head_note_data_toNat sp sa tag d
      exact ⟨rfl, hagent, EntryBody.head2_note_toNat sp sa tag d, hlow, hhigh⟩
    | barrierOpen b ph => exact ⟨rfl, hagent, hbarrier b, hphase ph, rfl⟩
    | barrierBroken b ph c =>
      have hcause : (fieldAt c.val 0 2).toNat = c.val := (toNat_fieldAt c.isLt (by decide)).trans (one_mul _)
      exact ⟨rfl, hagent, hbarrier b, hphase ph, hcause⟩
end

section
/-! PROOFS. Handles, command codes and argument fields, said once (R169 to R171): a field as a number, and for each
layout the
words in range and the fields they hold. -/

namespace Sys2Proof.Machine

/-! ### Fields as numbers -/

theorem bitsOf_eq (w : Word) (lo len : Nat) : bitsOf w lo len = w.toNat / 2 ^ lo % 2 ^ len := by
  rw [bitsOf, BitVec.extractLsb'_toNat, Nat.shiftRight_eq_div_pow]

theorem zeroFrom_iff (w : Word) {lo : Nat} (hlo : lo ≤ 16) : zeroFrom w lo = true ↔ w.toNat < 2 ^ lo := by
  have hquotient : w.toNat / 2 ^ lo < 2 ^ (16 - lo) := by
    rw [Nat.div_lt_iff_lt_mul (Nat.two_pow_pos lo), ← Nat.pow_add, Nat.sub_add_cancel hlo]
    exact w.isLt
  rw [zeroFrom, bitsOf_eq, Nat.mod_eq_of_lt hquotient, beq_iff_eq, Nat.div_eq_zero_iff_lt (Nat.two_pow_pos lo)]

theorem codeNamesKind_iff (n : Nat) : codeNamesKind n = true ↔ n = 1 ∨ n = 2 := by
  simp [codeNamesKind]

/-! ### Handles (R169) -/

theorem Handle.ofWord_toWord (h : Handle) : Handle.ofWord h.toWord = h := by
  have hindex := h.index.isLt
  have hgen := h.generation.isLt
  have hindex' : (Handle.ofWord h.toWord).index = h.index := by
    apply Fin.ext
    change bitsOf h.toWord 10 6 % 64 = _
    rw [bitsOf_eq, h.toWord_toNat]
    omega
  have hgen' : (Handle.ofWord h.toWord).generation = h.generation := by
    apply BitVec.eq_of_toNat_eq
    change bitsOf h.toWord 0 10 = _
    rw [bitsOf_eq, h.toWord_toNat]
    omega
  cases h
  exact congrArg₂ Handle.mk hindex' hgen'

/-! ### Command codes (R170, R171) -/

theorem Command.ofCode_eq_some_iff (code : BitVec 8) (c : Command) : Command.ofCode code = some c ↔ c.code = code := by
  constructor
  · intro h
    simpa using List.find?_some h
  · rintro rfl
    cases c <;> rfl

/-! ### Argument words (R171) -/

theorem argsInRange_forceDetach (a : Args) : argsInRange .forceDetach a = true ↔ a.arg0.toNat < 4 := by
  simp only [argsInRange, Bool.and_eq_true, decide_eq_true_eq, zeroFrom_iff _ (show 4 ≤ 16 by decide), bitsOf_eq]
  omega

theorem argsInRange_alloc (a : Args) : argsInRange .alloc a = true ↔ a.arg0.toNat = 1 ∨ a.arg0.toNat = 2 := by
  simp only [argsInRange, Bool.and_eq_true, codeNamesKind_iff, zeroFrom_iff _ (show 2 ≤ 16 by decide), bitsOf_eq]
  omega

theorem argsInRange_defineFixed (a : Args) :
    argsInRange .defineFixed a = true ↔ ∃ n : Nat, n < 8 ∧ (a.arg0.toNat = n + 256 ∨ a.arg0.toNat = n + 512) := by
  simp only [argsInRange, Bool.and_eq_true, decide_eq_true_eq, codeNamesKind_iff, beq_iff_eq,
    zeroFrom_iff _ (show 10 ≤ 16 by decide), bitsOf_eq]
  constructor
  · intro h
    exact ⟨a.arg0.toNat % 64, by omega, by omega⟩
  · rintro ⟨n, hn, h⟩
    omega

theorem argsInRange_acquire (a : Args) :
    argsInRange .acquire a = true ↔ ∃ n : Nat, n < 8 ∧ (a.arg1.toNat = n + 16 ∨ a.arg1.toNat = n + 32) := by
  simp only [argsInRange, Bool.and_eq_true, decide_eq_true_eq, codeNamesKind_iff,
    zeroFrom_iff _ (show 6 ≤ 16 by decide), bitsOf_eq]
  constructor
  · intro h
    exact ⟨a.arg1.toNat % 16, by omega, by omega⟩
  · rintro ⟨n, hn, h⟩
    omega

/-- RELEASE, DOWNGRADE and RENEW have one layout. -/
theorem argsInRange_lockAgent (a : Args) :
    (decide (bitsOf a.arg1 0 4 < 8) && zeroFrom a.arg1 4) = true ↔ a.arg1.toNat < 8 := by
  simp only [Bool.and_eq_true, decide_eq_true_eq, zeroFrom_iff _ (show 4 ≤ 16 by decide), bitsOf_eq]
  omega

theorem argsInRange_post (a : Args) :
    argsInRange .post a = true ↔
      ∃ q g n : Nat, q < 4 ∧ g < 8 ∧ n < 8 ∧ a.arg0.toNat = q + 16 * g + 256 * n ∧ a.arg1.toNat < 256 := by
  simp only [argsInRange, Bool.and_eq_true, decide_eq_true_eq, zeroFrom_iff _ (show 8 ≤ 16 by decide),
    zeroFrom_iff _ (show 12 ≤ 16 by decide), bitsOf_eq]
  constructor
  · intro h
    exact ⟨a.arg0.toNat % 16, a.arg0.toNat / 16 % 16, a.arg0.toNat / 256 % 16, by omega⟩
  · rintro ⟨q, g, n, h⟩
    omega

/-- The barrier commands have one layout. -/
theorem argsInRange_barrier (a : Args) :
    (decide (bitsOf a.arg0 0 4 < 8) && decide (bitsOf a.arg0 4 4 < 8) && zeroFrom a.arg0 8) = true ↔
      ∃ b g : Nat, b < 8 ∧ g < 8 ∧ a.arg0.toNat = b + 16 * g := by
  simp only [Bool.and_eq_true, decide_eq_true_eq, zeroFrom_iff _ (show 8 ≤ 16 by decide), bitsOf_eq]
  constructor
  · intro h
    exact ⟨a.arg0.toNat % 16, a.arg0.toNat / 16 % 16, by omega⟩
  · rintro ⟨b, g, h⟩
    omega

/-- A field that is in its range is the number read. -/
theorem val_ofNat_bitsOf (m : Nat) [NeZero m] (w : Word) {lo len n : Nat} (hn : n < m)
    (h : w.toNat / 2 ^ lo % 2 ^ len = n) : (Fin.ofNat m (bitsOf w lo len)).val = n := by
  rw [bitsOf_eq, h]
  exact Nat.mod_eq_of_lt hn

theorem kindOfCode_bitsOf {w : Word} {lo len : Nat} {k : Kind} (h : w.toNat / 2 ^ lo % 2 ^ len = k.code) :
    kindOfCode (bitsOf w lo len) = k := by
  rw [bitsOf_eq, h]
  cases k <;> rfl

theorem modeOfCode_bitsOf {w : Word} {lo len : Nat} {m : Mode} (h : w.toNat / 2 ^ lo % 2 ^ len = m.code) :
    modeOfCode (bitsOf w lo len) = m := by
  rw [bitsOf_eq, h]
  cases m <;> rfl

end Sys2Proof.Machine
end

section
/-! PROOFS. The layouts software sees (chapter 9). -/

open Sys2Proof Sys2Proof.Machine

/-- Settles O58: the tables hold by the definitions; the argument words have one lemma for each layout. -/
theorem codesAndFields : Obligations.CodesAndFields := by
  refine ⟨fun h => ⟨h.ofWord_toWord, h.toWord_toNat⟩, Handle.toWord_ofWord, ⟨rfl, rfl, rfl, rfl⟩, ⟨rfl, rfl, rfl⟩,
    ⟨rfl, rfl, rfl, rfl⟩, ⟨rfl, rfl, rfl, rfl, rfl⟩, ⟨rfl, rfl, rfl⟩, by decide, by decide,
    Command.ofCode_eq_some_iff, ?_⟩
  intro a
  dsimp only
  refine ⟨by simp [argsInRange], argsInRange_forceDetach a, fun h => val_ofNat_bitsOf 4 a.arg0 h (by omega),
    argsInRange_alloc a, fun h => kindOfCode_bitsOf (k := .exclusive) (by rw [h]; rfl),
    fun h => kindOfCode_bitsOf (k := .shared) (by rw [h]; rfl), argsInRange_defineFixed a, fun n hn => ?fixed,
    argsInRange_acquire a, fun n hn => ?acquire, ?agent, fun h => val_ofNat_bitsOf 8 a.arg1 h (by omega),
    zeroFrom_iff _ (by decide), argsInRange_post a, fun q g n hq hg hn h => ?post, ?barrier, fun b g hb hg h => ?fields⟩
  case fixed =>
    have hindex : a.arg0.toNat % 64 = n → a.fixedIndex.val = n := fun h =>
      val_ofNat_bitsOf 64 a.arg0 (by omega) (by omega)
    exact ⟨fun h => ⟨hindex (by omega), kindOfCode_bitsOf (k := .exclusive) (by rw [h, Kind.code]; omega)⟩,
      fun h => ⟨hindex (by omega), kindOfCode_bitsOf (k := .shared) (by rw [h, Kind.code]; omega)⟩⟩
  case acquire =>
    have hagent : a.arg1.toNat % 16 = n → a.lockAgent.val = n := fun h =>
      val_ofNat_bitsOf 8 a.arg1 hn (by omega)
    exact ⟨fun h => ⟨hagent (by omega), modeOfCode_bitsOf (m := .exclusive) (by rw [h, Mode.code]; omega)⟩,
      fun h => ⟨hagent (by omega), modeOfCode_bitsOf (m := .shared) (by rw [h, Mode.code]; omega)⟩⟩
  case agent =>
    simp only [List.forall_mem_cons, List.not_mem_nil, false_implies, implies_true, and_true]
    exact ⟨argsInRange_lockAgent a, argsInRange_lockAgent a, argsInRange_lockAgent a⟩
  case post =>
    exact ⟨val_ofNat_bitsOf 4 a.arg0 hq (by omega), val_ofNat_bitsOf 8 a.arg0 hg (by omega),
      val_ofNat_bitsOf 8 a.arg0 hn (by omega)⟩
  case barrier =>
    simp only [List.forall_mem_cons, List.not_mem_nil, false_implies, implies_true, and_true]
    exact ⟨argsInRange_barrier a, argsInRange_barrier a, argsInRange_barrier a, argsInRange_barrier a,
      argsInRange_barrier a, argsInRange_barrier a, argsInRange_barrier a⟩
  case fields => exact ⟨val_ofNat_bitsOf 8 a.arg0 hb (by omega), val_ofNat_bitsOf 8 a.arg0 hg (by omega)⟩
end

section
/-! PROOFS. What one command can do to a state, said once: `Event` lists the next states a command can answer, and `Written`
the states a taken bus write can leave. -/

namespace Sys2Proof.Machine

/-! ### Bus writes (R165) -/

/-- What a taken write of port `p` at offset `off` can leave of state `s`. -/
inductive Written (s : State) (p : Port) (off : Offset) : State → Prop
  | ignored : Written s p off s
  | stored (x : PortInterface) : Written s p off (s.setInterface p x)
  | overran : Written s p off (s.setUnit p { s.unit p with overrun := true })
  | taken (v : Word) (hidle : (s.unit p).inFlight = none) : Written s p off (s.takeCommand p v)
  | cleared (completion overrun : Bool) :
    Written s p off (s.setUnit p { s.unit p with completion := completion, overrun := overrun })
  | popped : Written s p off (s.popInbox p)
  | summary (v : Word) : Written s p off (s.writeDsum p v)
  | interval (v : Word) : Written s p off (s.writeKalive p v)
  | cap (v : Word) : Written s p off (s.writeWcap p v)
  | reset (hoff : off = 0x17) : Written s p off (s.resetPort p)
  | prescale (v : Word) (hoff : off = 0x1A) (hsupervisor : p = s.supervisor) :
    Written s p off { s with prescale := v }

theorem Written.of_writeCmd (s : State) (p : Port) (off : Offset) (v : Word) : Written s p off (s.writeCmd p v) := by
  cases hflight : (s.unit p).inFlight with
  | none =>
    rw [State.writeCmd_of_not_busy hflight]
    exact .taken v hflight
  | some f =>
    rw [State.writeCmd_of_busy (by simp [hflight])]
    exact .overran

theorem Written.of_writePrescale (s : State) (p : Port) (v : Word) : Written s p 0x1A (s.writePrescale p v) := by
  unfold State.writePrescale
  split_ifs with hsupervisor
  · exact .prescale v rfl hsupervisor
  · exact .ignored

theorem Written.of_softReset (s : State) (p : Port) (v : Word) :
    Written s p 0x17 (if v.getLsbD 0 then s.resetPort p else s) := by
  split_ifs
  · exact .reset rfl
  · exact .ignored

/-- R164, R165: the effect of a write by its offset. -/
theorem Written.of_writeWindow (s : State) (p : Port) (off : Offset) (v : Word) :
    Written s p off (s.writeWindow p off v) := by
  unfold State.writeWindow
  split
  case h_1 | h_2 | h_3 | h_4 => exact .stored _
  case h_5 => exact .of_writeCmd s p off v
  case h_6 => exact .popped
  case h_7 => exact .summary v
  case h_8 => exact .stored _
  case h_9 => exact .cleared _ _
  case h_10 => exact .interval v
  case h_11 => exact .cap v
  case h_12 hoff =>
    obtain rfl : off = 0x17 := Fin.ext hoff
    exact .of_softReset s p v
  case h_13 hoff =>
    obtain rfl : off = 0x1A := Fin.ext hoff
    exact .of_writePrescale s p v
  case h_14 => exact .ignored

/-! ### Events -/

/-- The next states command `c` can answer from state `s`. -/
inductive Event (s : State) : Instr → State → Prop
  | unchanged (c : Instr) : Event s c s
  | refused (k : Command) (p : Port) (a : Args) (d : Bool) (hflight : (s.unit p).inFlight = some ⟨k, a, .handed d⟩) :
    Event s (k.request p) (s.answer p (.bare .departed))
  | served (k : Command) (p : Port) (a : Args) (hflight : (s.unit p).inFlight = some ⟨k, a, .handed false⟩)
    (hlive : k = .attach ∨ s.attached p = true) :
    Event s (k.request p) ((k.owner p a s).1.answer p (k.owner p a s).2)
  | written (c : Instr) (p : Port) (off : Offset) (v : Word) (hwrite : busWrite c = some (p, off, v))
    (hreset : s.resetLow = false) (hheld : s.held p = false) (t : State) (h : Written s p off t) : Event s c t
  | completed (p : Port) (k : Command) (a : Args) (r : Answer) (hflight : (s.unit p).inFlight = some ⟨k, a, .answered r⟩) :
    Event s (.completion p) (s.setUnit p ((s.unit p).complete r))
  | ticklRead (p : Port) : Event s (.ticklRead p) (s.readTickl p)
  | portReset (p : Port) (hreset : s.resetLow = false) : Event s (.portReset p) ((s.resetPort p).setHeld p true)
  | heldInReset (p : Port) (hreset : s.resetLow = true) : Event s (.portReset p) (s.setHeld p true)
  | released (p : Port) : Event s (.prstnRelease p) (s.setHeld p false)
  | deviceReset : Event s .deviceReset s.deviceReset
  | resetnRelease (sup : Port) (hreset : s.resetLow = true) : Event s (.resetnRelease sup)
    { s with resetLow := false, supervisor := sup, tickLength := prescaleCycles s.prescale }
  | tick (hreset : s.resetLow = false) : Event s .tick s.advanceTick
  | waitExpiry (i : LockIndex) (r : Requester) (k : Ticks) (rest : List Deadline)
    (hlist : s.deadlines = ⟨.wait i r, k, true⟩ :: rest) :
    Event s .waitExpiry (State.expireWait { s with deadlines := rest } i r)
  | leaseExpiry (i : LockIndex) (k : Ticks) (rest : List Deadline) (hlist : s.deadlines = ⟨.lease i, k, true⟩ :: rest) :
    Event s .leaseExpiry (State.expireLease { s with deadlines := rest } i)
  | keepaliveExpiry (p : Port) (k : Ticks) (rest : List Deadline)
    (hlist : s.deadlines = ⟨.keepalive p, k, true⟩ :: rest) :
    Event s .keepaliveExpiry (State.expireKeepalive { s with deadlines := rest } p)
  | lockVisit (p : Port) (i : LockIndex) (hengine : s.engine = .busy p (.locks i)) :
    Event s .lockVisit { s.visitLock p i with engine := .busy p (Position.locks i).next }
  | barrierVisit (p : Port) (b : BarrierIndex) (hengine : s.engine = .busy p (.barriers b)) :
    Event s .barrierVisit { s.visitBarrier p b with engine := .busy p (Position.barriers b).next }
  | finalStep (p : Port) (hengine : s.engine = .busy p .final) :
    Event s .finalStep (s.reportSweepEnd p).nextSweep

theorem Event.of_request (s : State) (k : Command) (p : Port) : Event s (k.request p) (s.serve p k k.owner) := by
  by_cases hhanded : ∃ a d, (s.unit p).inFlight = some ⟨k, a, .handed d⟩
  · obtain ⟨a, d, hflight⟩ := hhanded
    by_cases hdeparted : d = true ∨ (k ≠ .attach ∧ s.attached p = false)
    · rw [State.serve_of_departed hflight hdeparted]
      exact .refused k p a d hflight
    · obtain ⟨hd, hlive⟩ := not_or.1 hdeparted
      have hserve : s.serve p k k.owner = (k.owner p a s).1.answer p (k.owner p a s).2 := by
        simp only [State.serve, hflight, ne_eq, not_true_eq_false, if_false]
        exact if_neg hdeparted
      rw [Bool.not_eq_true] at hd
      rw [hserve]
      exact .served k p a (hd ▸ hflight) (by simpa [or_iff_not_imp_left] using hlive)
  · rw [State.serve_of_not_handed fun a d hflight => hhanded ⟨a, d, hflight⟩]
    exact .unchanged _

theorem Event.of_busWrite {s t : State} {c : Instr} {p : Port} {off : Offset} {v : Word}
    (hwrite : busWrite c = some (p, off, v)) (h : exec c s = .next t) : Event s c t := by
  by_cases hbus : s.resetLow = false ∧ s.held p = false
  · obtain ⟨hreset, hheld⟩ := hbus
    rw [exec_of_busWrite_taken hwrite hreset hheld] at h
    cases h
    exact .written c p off v hwrite hreset hheld _ (.of_writeWindow s p off v)
  · have hlow : s.resetLow = true ∨ s.held p = true := by
      simpa [or_iff_not_imp_left] using hbus
    rw [exec_of_busWrite_ignored hwrite hlow] at h
    cases h
    exact .unchanged c

theorem Event.of_waitExpiry {s t : State} (h : exec .waitExpiry s = .next t) : Event s .waitExpiry t := by
  by_cases hdue : ∃ i r k rest, s.deadlines = ⟨.wait i r, k, true⟩ :: rest
  · obtain ⟨i, r, k, rest, hlist⟩ := hdue
    rw [exec_waitExpiry_of_due hlist, State.dropHeadDeadline_eq hlist] at h
    cases h
    exact .waitExpiry i r k rest hlist
  · rw [exec_waitExpiry_of_not_due fun i r k rest hlist => hdue ⟨i, r, k, rest, hlist⟩] at h
    cases h
    exact .unchanged _

theorem Event.of_leaseExpiry {s t : State} (h : exec .leaseExpiry s = .next t) : Event s .leaseExpiry t := by
  by_cases hdue : ∃ i k rest, s.deadlines = ⟨.lease i, k, true⟩ :: rest
  · obtain ⟨i, k, rest, hlist⟩ := hdue
    rw [exec_leaseExpiry_of_due hlist, State.dropHeadDeadline_eq hlist] at h
    cases h
    exact .leaseExpiry i k rest hlist
  · rw [exec_leaseExpiry_of_not_due fun i k rest hlist => hdue ⟨i, k, rest, hlist⟩] at h
    cases h
    exact .unchanged _

theorem Event.of_keepaliveExpiry {s t : State} (h : exec .keepaliveExpiry s = .next t) : Event s .keepaliveExpiry t := by
  by_cases hdue : ∃ p k rest, s.deadlines = ⟨.keepalive p, k, true⟩ :: rest
  · obtain ⟨p, k, rest, hlist⟩ := hdue
    rw [exec_keepaliveExpiry_of_due hlist, State.dropHeadDeadline_eq hlist] at h
    cases h
    exact .keepaliveExpiry p k rest hlist
  · rw [exec_keepaliveExpiry_of_not_due fun p k rest hlist => hdue ⟨p, k, rest, hlist⟩] at h
    cases h
    exact .unchanged _

theorem Event.of_completion {s t : State} {p : Port} (h : exec (.completion p) s = .next t) : Event s (.completion p) t := by
  by_cases hanswered : ∃ c a r, (s.unit p).inFlight = some ⟨c, a, .answered r⟩
  · obtain ⟨c, a, r, hflight⟩ := hanswered
    rw [exec_completion_of_answered hflight] at h
    cases h
    exact .completed p c a r hflight
  · rw [exec_completion_of_not_answered fun c a r hflight => hanswered ⟨c, a, r, hflight⟩] at h
    cases h
    exact .unchanged _

/-- The sweep engine's three events exclude each other by the position (R132). -/
theorem Event.of_sweep {s t : State} {c : Instr} (hc : c = .lockVisit ∨ c = .barrierVisit ∨ c = .finalStep)
    (h : exec c s = .next t) : Event s c t := by
  obtain rfl | rfl | rfl := hc
  · by_cases hengine : ∃ p i, s.engine = .busy p (.locks i)
    · obtain ⟨p, i, hengine⟩ := hengine
      rw [exec_lockVisit_of_busy hengine] at h
      cases h
      exact .lockVisit p i hengine
    · rw [exec_lockVisit_of_elsewhere fun p i hbusy => hengine ⟨p, i, hbusy⟩] at h
      cases h
      exact .unchanged _
  · by_cases hengine : ∃ p b, s.engine = .busy p (.barriers b)
    · obtain ⟨p, b, hengine⟩ := hengine
      rw [exec_barrierVisit_of_busy hengine] at h
      cases h
      exact .barrierVisit p b hengine
    · rw [exec_barrierVisit_of_elsewhere fun p b hbusy => hengine ⟨p, b, hbusy⟩] at h
      cases h
      exact .unchanged _
  · by_cases hengine : ∃ p, s.engine = .busy p .final
    · obtain ⟨p, hengine⟩ := hengine
      rw [exec_finalStep_of_busy hengine] at h
      cases h
      exact .finalStep p hengine
    · rw [exec_finalStep_of_elsewhere fun p hbusy => hengine ⟨p, hbusy⟩] at h
      cases h
      exact .unchanged _

/-- The pin of a port goes low (R125, R163). -/
theorem Event.of_portReset (s : State) (p : Port) :
    Event s (.portReset p)
      (if s.held p then s else if s.resetLow then s.setHeld p true else (s.resetPort p).setHeld p true) := by
  by_cases hheld : s.held p = true
  · rw [if_pos hheld]
    exact .unchanged _
  · rw [if_neg hheld]
    by_cases hreset : s.resetLow = true
    · rw [if_pos hreset]
      exact .heldInReset p hreset
    · rw [if_neg hreset]
      exact .portReset p (by simpa using hreset)

theorem Event.of_resetnRelease (s : State) (sup : Port) :
    Event s (.resetnRelease sup)
      (if s.resetLow then { s with resetLow := false, supervisor := sup, tickLength := prescaleCycles s.prescale }
      else s) := by
  by_cases hreset : s.resetLow = true
  · rw [if_pos hreset]
    exact .resetnRelease sup hreset
  · rw [if_neg hreset]
    exact .unchanged _

theorem Event.of_tick (s : State) : Event s .tick (if s.resetLow then s else s.advanceTick) := by
  by_cases hreset : s.resetLow = true
  · rw [if_pos hreset]
    exact .unchanged _
  · rw [if_neg hreset]
    exact .tick (by simpa using hreset)

theorem Event.of_exec_request {s t : State} {k : Command} {p : Port} (h : exec (k.request p) s = .next t) :
    Event s (k.request p) t := by
  rw [exec_request] at h
  cases h
  exact .of_request s k p

/-- The one case analysis over the commands: a request, a bus write, or an event of a block. -/
theorem Event.of_exec {s t : State} {c : Instr} (h : exec c s = .next t) : Event s c t := by
  cases c with
  | attach p => exact Event.of_exec_request (k := .attach) h
  | detach p => exact Event.of_exec_request (k := .detach) h
  | touch p => exact Event.of_exec_request (k := .touch) h
  | forceDetach p => exact Event.of_exec_request (k := .forceDetach) h
  | alloc p => exact Event.of_exec_request (k := .alloc) h
  | retire p => exact Event.of_exec_request (k := .retire) h
  | defineFixed p => exact Event.of_exec_request (k := .defineFixed) h
  | query p => exact Event.of_exec_request (k := .query) h
  | acquire p => exact Event.of_exec_request (k := .acquire) h
  | release p => exact Event.of_exec_request (k := .release) h
  | downgrade p => exact Event.of_exec_request (k := .downgrade) h
  | renew p => exact Event.of_exec_request (k := .renew) h
  | cancel p => exact Event.of_exec_request (k := .cancel) h
  | post p => exact Event.of_exec_request (k := .post) h
  | join p => exact Event.of_exec_request (k := .join) h
  | leave p => exact Event.of_exec_request (k := .leave) h
  | arrive p => exact Event.of_exec_request (k := .arrive) h
  | withdraw p => exact Event.of_exec_request (k := .withdraw) h
  | breakBarrier p => exact Event.of_exec_request (k := .breakBarrier) h
  | rearm p => exact Event.of_exec_request (k := .rearm) h
  | barrierQuery p => exact Event.of_exec_request (k := .barrierQuery) h
  | cmdWrite | overrun | pop | summaryClear | istatClear | ienWrite | keepaliveIntervalWrite | waiterCapWrite
  | prescaleWrite | registerWrite | softReset => exact Event.of_busWrite rfl h
  | completion p => exact .of_completion h
  | ticklRead p => cases h; exact .ticklRead p
  | portReset p => cases h; exact .of_portReset s p
  | prstnRelease p => cases h; exact .released p
  | deviceReset => cases h; exact .deviceReset
  | resetnRelease sup => cases h; exact .of_resetnRelease s sup
  | tick => cases h; exact .of_tick s
  | waitExpiry => exact .of_waitExpiry h
  | leaseExpiry => exact .of_leaseExpiry h
  | keepaliveExpiry => exact .of_keepaliveExpiry h
  | lockVisit | barrierVisit | finalStep => exact .of_sweep (by simp) h

/-- A step idles, or runs the command at the front of the queue with the rest of it. -/
theorem Event.of_step {s t : State} (h : step s = .next t) :
    t = s ∨ ∃ c rest, Event { s with pending := rest } c t := by
  unfold step at h
  cases hpending : s.pending with
  | nil =>
    rw [hpending] at h
    cases h
    exact .inl rfl
  | cons c rest =>
    rw [hpending] at h
    exact .inr ⟨c, rest, .of_exec h⟩

end Sys2Proof.Machine
end

section
/-! PROOFS. What the blocks do in one event, said once: `LockStep` is one step at one lock, `LockMove`, `BarrierMove` and
`BlockStep` the changes an event makes. What every step keeps is then proved by cases over these. -/

namespace Sys2Proof.Machine

/-! ### Steps at one lock (chapters 2, 3, 7) -/

/-- R63: record `w` has expired: it is freed, one reservation is for its WAIT_EXPIRED entry, the other is dropped. -/
def State.expireRecord (s : State) (i : LockIndex) (w : WaiterRecord) : State :=
  ((s.freeRecord i w).deliverReserved w.requester.port
    ⟨w.requester.agent, .waitExpired (s.handleOf i) w.mode w.ticket⟩).dropReservations w.requester.port (w.reservations - 1)

/-- R66, R67: the lease of requester `r`'s hold has expired, and its entry has left the list. -/
def State.revoke (s : State) (i : LockIndex) (r : Requester) (rest : List Deadline) : State :=
  ({ s with deadlines := rest }.setLock i
      { s.lock i with exclusiveHolder := none, mark := if s.attached r.port then .revoked else .abandoned }).deliverReserved
    r.port ⟨r.agent, .leaseRevoked (s.handleOf i)⟩

/-- The exclusive hold of requester `r` ends with its lease; the mark and the shared holders become what is given. -/
def State.endHold (s : State) (i : LockIndex) (r : Requester) (shared : List Requester) (mark : Mark) : State :=
  (s.setLock i { s.lock i with exclusiveHolder := none, sharedHolders := shared, mark := mark }).endLease i r.port

/-- One step at lock `i` towards the end of a hold, a wait or an allocation, or of grant evaluation. -/
inductive LockStep (i : LockIndex) (s : State) : State → Prop
  | discard (w : WaiterRecord) (hmem : w ∈ (s.lock i).queue) : LockStep i s (s.discardRecord i w)
  | grant (w : WaiterRecord) (rest : List WaiterRecord) (hqueue : (s.lock i).queue = w :: rest)
    (hlive : s.attached w.requester.port = true) (haccepts : (s.lock i).Accepts w.mode) : LockStep i s (s.grantHead i w)
  | expire (w : WaiterRecord) (hmem : w ∈ (s.lock i).queue) (hlive : s.attached w.requester.port = true) :
    LockStep i s (s.expireRecord i w)
  | revoke (r : Requester) (k : Ticks) (rest : List Deadline) (hlist : s.deadlines = ⟨.lease i, k, true⟩ :: rest)
    (hholder : (s.lock i).exclusiveHolder = some r) : LockStep i s (s.revoke i r rest)
  | endHold (r : Requester) (shared : List Requester) (mark : Mark) (hholder : (s.lock i).exclusiveHolder = some r)
    (hshared : shared = (s.lock i).sharedHolders ∨ shared = [r]) : LockStep i s (s.endHold i r shared mark)
  | narrow (shared : List Requester) (allocator : Option Port) (hshared : shared.Sublist (s.lock i).sharedHolders)
    (hallocator : allocator = (s.lock i).allocator ∨ allocator = none) :
    LockStep i s (s.setLock i { s.lock i with sharedHolders := shared, allocator := allocator })

/-- Some steps at lock `i`, one after the other. -/
def LockSteps (i : LockIndex) : State → State → Prop := Relation.ReflTransGen (LockStep i)

theorem LockSteps.refl (i : LockIndex) (s : State) : LockSteps i s s := Relation.ReflTransGen.refl

theorem LockSteps.one {i : LockIndex} {s t : State} (h : LockStep i s t) : LockSteps i s t := Relation.ReflTransGen.single h

/-- What every step at the lock keeps, they keep. -/
theorem LockSteps.keeps {i : LockIndex} {s t : State} {P : State → Prop} (h : LockSteps i s t) (hs : P s)
    (hstep : ∀ u v, LockStep i u v → P u → P v) : P t := by
  induction h with
  | refl => exact hs
  | tail _ hlast ih => exact hstep _ _ hlast ih

/-- Grant evaluation discards departed heads and grants live ones (R40, R41). -/
theorem LockSteps.evaluate {i : LockIndex} {s u : State} (h : LockSteps i s u) : LockSteps i s (u.evaluate i) :=
  State.evaluate_keeps (P := LockSteps i s) i u h
    (fun _ w _ ht hqueue _ => ht.tail (.discard w (hqueue ▸ List.mem_cons_self)))
    fun _ w rest ht hqueue hlive hfits => ht.tail (.grant w rest hqueue hlive ((LockEntry.compatible_iff _ _).1 hfits))

/-! ### The sweep of one lock (R136, R137) -/

theorem LockSteps.of_foldl_discard {i : LockIndex} {s : State} (l : List WaiterRecord) (t : State)
    (hl : l.Sublist (t.lock i).queue) (h : LockSteps i s t) :
    LockSteps i s (l.foldl (fun u w => u.discardRecord i w) t) := by
  induction l generalizing t with
  | nil => exact h
  | cons w l ih =>
    refine ih _ ?_ (h.tail (.discard w (hl.mem List.mem_cons_self)))
    rw [State.discardRecord_lock, if_pos rfl]
    simpa using hl.erase w

theorem State.setLock_setLock (s : State) (i : LockIndex) (x y : LockEntry) :
    (s.setLock i x).setLock i y = s.setLock i y := by
  simp only [State.setLock, Vector.set_set]

/-- The end of a lease and the rewriting of the lock's entry do not meet. -/
theorem State.endLease_setLock (s : State) (i : LockIndex) (p : Port) {x : LockEntry}
    (hx : x.leasePeriod = (s.lock i).leasePeriod) : (s.endLease i p).setLock i x = (s.setLock i x).endLease i p := by
  unfold State.endLease
  rw [State.setLock_lock_self, hx]
  split_ifs <;> rfl

theorem LockEntry.sweptOf_of_exclusive {e : LockEntry} {p : Port} (h : e.exclusiveOf p = true) :
    e.sweptOf p =
      { e with
        exclusiveHolder := none
        mark := .abandoned
        sharedHolders := e.sharedHolders.filter fun r => r.port != p
        allocator := if e.allocator = some p then none else e.allocator } := by
  rw [LockEntry.exclusiveOf] at h
  simp only [LockEntry.sweptOf, h, if_true]

theorem LockEntry.sweptOf_of_not_exclusive {e : LockEntry} {p : Port} (h : e.exclusiveOf p = false) :
    e.sweptOf p =
      { e with
        sharedHolders := e.sharedHolders.filter fun r => r.port != p
        allocator := if e.allocator = some p then none else e.allocator } := by
  rw [LockEntry.exclusiveOf] at h
  simp only [LockEntry.sweptOf, h, Bool.false_eq_true, if_false]

theorem LockSteps.clearLock (s : State) (p : Port) (i : LockIndex) : LockSteps i s (s.clearLock p i) := by
  have hswept : LockSteps i s (s.sweepRecords p i) :=
    .of_foldl_discard _ s List.filter_sublist (.refl i s)
  have hentry := s.sweepRecords_lock_self p i
  have hallocator : ∀ x : Option Port, (if x = some p then none else x) = x ∨ (if x = some p then none else x) = none :=
    fun x => by split_ifs <;> simp
  have hfilter : ∀ l : List Requester, (l.filter fun r => r.port != p).Sublist l := fun l => List.filter_sublist
  generalize hu : s.sweepRecords p i = u at hswept hentry
  have hexclusive : (u.lock i).exclusiveOf p = (s.lock i).exclusiveOf p := by rw [hentry]; rfl
  rw [State.clearLock, hu, ← hexclusive]
  cases hheld : (u.lock i).exclusiveOf p with
  | false =>
    rw [if_neg (by simp), LockEntry.sweptOf_of_not_exclusive hheld]
    exact hswept.tail (.narrow _ _ (hfilter _) (hallocator _))
  | true =>
    obtain ⟨r, hholder, hport⟩ := (Option.any_eq_true _ _).1 hheld
    rw [beq_iff_eq] at hport
    have hended := hswept.tail (.endHold r (u.lock i).sharedHolders .abandoned hholder (.inl rfl))
    have hlock : (u.endHold i r (u.lock i).sharedHolders .abandoned).lock i =
        { u.lock i with exclusiveHolder := none, mark := .abandoned } := by
      rw [State.endHold, State.endLease_lock, State.setLock_lock_self]
    have hlast := hended.tail (.narrow _ _ (hfilter _) (hallocator _))
    rw [hlock] at hlast
    rw [if_pos rfl, State.endLease_lock, LockEntry.sweptOf_of_exclusive hheld, ← hport]
    refine Eq.mp (congrArg (LockSteps i s) ?_) hlast
    rw [State.endHold, State.endLease_setLock _ _ _ (x := _) ?_, State.setLock_setLock, State.endLease_setLock _ _ _ ?_, hport]
    · rfl
    · rw [State.setLock_lock_self]

theorem LockSteps.visitLock (s : State) (p : Port) (i : LockIndex) : LockSteps i s (s.visitLock p i) := by
  rw [State.visitLock_eq]
  split_ifs
  · exact (LockSteps.clearLock s p i).evaluate
  · exact .clearLock s p i

end Sys2Proof.Machine
end

section
/-! PROOFS. The changes an event makes to the blocks: a command of the lock table, of the barrier unit, of the session unit
or of the inbox unit behind its checks, a write to the window, a tick, an expiry, a step of the sweep, a reset. -/

namespace Sys2Proof.Machine

/-! ### The lock table's commands (chapters 1 to 3) -/

/-- R13: lock `i` is allocated to port `p`, and `rest` is the free-lock list. -/
def State.allocate (s : State) (p : Port) (i : LockIndex) (k : Kind) (lease : Word) (rest : List LockIndex) : State :=
  { s.setLock i { s.lock i with state := .allocated, kind := k, leasePeriod := lease, allocator := some p } with
    freeLocks := rest }

/-- R15: lock `i` is retired. -/
def State.retire (s : State) (i : LockIndex) : State :=
  { s.setLock i (s.lock i).retired with freeLocks := s.freeLocks ++ [i] }

/-- R32: the grant of lock `i` under a lease. -/
def State.grantLease (s : State) (i : LockIndex) (r : Requester) (m : Mode) : State :=
  { (s.setLock i ((s.lock i).grantTo r m)).reserve r.port 1 with
    deadlines := placeDeadline s.tick ⟨.lease i, s.after (s.lock i).leasePeriod, false⟩ s.deadlines }

/-- What command `k` of the lock table, a request of port `p`, does behind its checks. An evaluation is an expiry's too. -/
inductive LockMove (s : State) (p : Port) : Command → State → Prop
  | allocate (i : LockIndex) (k : Kind) (lease : Word) (rest : List LockIndex) (hlive : s.attached p = true)
    (hfree : s.freeLocks = i :: rest) : LockMove s p .alloc (s.allocate p i k lease rest)
  | retire (i : LockIndex) (hallocated : (s.lock i).state = .allocated) (hindex : ¬ i.val < 8)
    (hunused : ¬ (s.lock i).inUse = true) : LockMove s p .retire (s.retire i)
  | define (a : Args) (hflight : (s.unit p).inFlight = some ⟨.defineFixed, a, .handed false⟩)
    (hunused : ¬ (s.lock a.fixedIndex).inUse = true) :
    LockMove s p .defineFixed (s.setLock a.fixedIndex { s.lock a.fixedIndex with kind := a.fixedKind, leasePeriod := a.lease })
  | grant (r : Requester) (h : Handle) (m : Mode) (hlive : s.attached r.port = true) (hpass : AcquirePasses s r h m)
    (hqueue : (s.lock h.index).queue = []) (haccepts : (s.lock h.index).Accepts m)
    (hlease : ¬ (s.lock h.index).Leases m) : LockMove s p .acquire (s.setLock h.index ((s.lock h.index).grantTo r m))
  | grantLease (r : Requester) (h : Handle) (m : Mode) (hlive : s.attached r.port = true) (hpass : AcquirePasses s r h m)
    (hqueue : (s.lock h.index).queue = []) (haccepts : (s.lock h.index).Accepts m)
    (hlease : (s.lock h.index).Leases m) (hroom : ¬ 16 ≤ (s.inbox r.port).entries.length + (s.inbox r.port).reserved) :
    LockMove s p .acquire (s.grantLease h.index r m)
  | wait (r : Requester) (h : Handle) (m : Mode) (limit : Word) (hport : r.port = p) (hlive : s.attached r.port = true)
    (hpass : AcquirePasses s r h m) (hwait : ¬((s.lock h.index).queue = [] ∧ (s.lock h.index).Accepts m))
    (hlimit : limit ≠ 0) (hrecord : s.recordRefusal r.port = none)
    (hroom : ¬ s.freeRoom r.port < reservationsNeeded (s.lock h.index) m) :
    LockMove s p .acquire (s.withWaiter ⟨r, h.index, m, s.nextTicket r.port, reservationsNeeded (s.lock h.index) m⟩ limit)
  | renew (i : LockIndex) (r : Requester) (hholder : (s.lock i).exclusiveHolder = some r)
    (hperiod : (s.lock i).leasePeriod ≠ 0) : LockMove s p .renew (s.moveDeadline (.lease i) (s.after (s.lock i).leasePeriod))
  | evaluated (k : Command) (i : LockIndex) (u : State) (hsteps : LockSteps i s u) : LockMove s p k (u.evaluate i)

/-! ### The barrier unit's commands (chapter 5) -/

/-- What command `k` of the barrier unit by requester `r` does to barrier `b` behind its checks. -/
inductive BarrierMove (s : State) (r : Requester) (b : BarrierIndex) : Command → State → Prop
  | join (hnot : r ∉ (s.barrier b).members) (hroom : ¬ 8 ≤ (s.barrier b).members.length) :
    BarrierMove s r b .join (s.setBarrier b { s.barrier b with members := (s.barrier b).members ++ [r] })
  | leave (hmember : r ∈ (s.barrier b).members) (hnot : r ∉ (s.barrier b).arrived)
    (hincomplete : ¬((s.barrier b).arrived ≠ [] ∧ ∀ m ∈ (s.barrier b).members.erase r, m ∈ (s.barrier b).arrived)) :
    BarrierMove s r b .leave (s.setBarrier b
      { s.barrier b with
        members := (s.barrier b).members.erase r
        state := if (s.barrier b).members.erase r = [] then .idle else (s.barrier b).state })
  | leaveOpens (hmember : r ∈ (s.barrier b).members) (hnot : r ∉ (s.barrier b).arrived) :
    BarrierMove s r b .leave
      ((s.setBarrier b { s.barrier b with members := (s.barrier b).members.erase r }).openBarrier b)
  | arrive (hmember : r ∈ (s.barrier b).members) (hbroken : (s.barrier b).state ≠ .broken)
    (hnot : r ∉ (s.barrier b).arrived)
    (hincomplete : ¬ ∀ m ∈ (s.barrier b).members, m ≠ r → m ∈ (s.barrier b).arrived)
    (hroom : ¬ 16 ≤ (s.inbox r.port).entries.length + (s.inbox r.port).reserved) :
    BarrierMove s r b .arrive
      ((s.setBarrier b
        { s.barrier b with arrived := (s.barrier b).arrived ++ [r], state := .gathering }).reserve r.port 1)
  | arriveOpens : BarrierMove s r b .arrive (s.openBarrier b)
  | withdraw (harrived : r ∈ (s.barrier b).arrived) :
    BarrierMove s r b .withdraw
      ((s.setBarrier b
        { s.barrier b with
          arrived := (s.barrier b).arrived.erase r
          state := if (s.barrier b).arrived.erase r = [] then .idle else .gathering }).dropReservations r.port 1)
  | breakRound : BarrierMove s r b .breakBarrier (s.breakRound b r.port)
  | breakIdle (hmember : r ∈ (s.barrier b).members) (hidle : (s.barrier b).state = .idle) :
    BarrierMove s r b .breakBarrier (s.setBarrier b { s.barrier b with state := .broken })
  | rearm (hbroken : (s.barrier b).state = .broken) :
    BarrierMove s r b .rearm (s.setBarrier b { s.barrier b with state := .idle })

/-! ### The owners (R153) -/

/-- What the owner of command `k`, taking the request of port `p`, does to the blocks. -/
inductive OwnerStep (s : State) (k : Command) (p : Port) : State → Prop
  | idle : OwnerStep s k p s
  | lock (t : State) (h : LockMove s p k t) : OwnerStep s k p t
  | barrier (r : Requester) (b : BarrierIndex) (t : State) (hlive : s.attached r.port = true) (h : BarrierMove s r b k t) :
    OwnerStep s k p t
  | attach (hk : k = .attach) (hdetached : (s.session p).state = .detached) : OwnerStep s k p (s.startSession p)
  | depart (q : Port) (c : Cause) (hlive : s.attached q = true) (hk : (k = .detach ∧ q = p) ∨ k = .forceDetach) :
    OwnerStep s k p (s.depart q c)
  | deliver (q : Port) (e : InboxEntry) (hlive : s.attached q = true)
    (hroom : ¬ 16 ≤ (s.inbox q).entries.length + (s.inbox q).reserved) : OwnerStep s k p (s.deliver q e)

/-! ### Every block -/

/-- What one event does to the blocks. -/
inductive BlockStep (s : State) : State → Prop
  | idle : BlockStep s s
  | lock (k : Command) (p : Port) (t : State) (h : LockMove s p k t) : BlockStep s t
  | barrier (r : Requester) (b : BarrierIndex) (k : Command) (t : State) (hlive : s.attached r.port = true)
    (h : BarrierMove s r b k t) : BlockStep s t
  | attach (p : Port) (hdetached : (s.session p).state = .detached) : BlockStep s (s.startSession p)
  | depart (p : Port) (c : Cause) (hlive : s.attached p = true) : BlockStep s (s.depart p c)
  | portReset (p : Port) : BlockStep s (s.resetPort p)
  | summary (p : Port) (v : Word) : BlockStep s (s.writeDsum p v)
  | interval (p : Port) (v : Word) : BlockStep s (s.writeKalive p v)
  | cap (p : Port) (v : Word) : BlockStep s (s.writeWcap p v)
  | renewKeepalive (p : Port) : BlockStep s (s.renewKeepalive p)
  | deliver (p : Port) (e : InboxEntry) (hlive : s.attached p = true)
    (hroom : ¬ 16 ≤ (s.inbox p).entries.length + (s.inbox p).reserved) : BlockStep s (s.deliver p e)
  | pop (p : Port) : BlockStep s (s.popInbox p)
  | tick : BlockStep s s.advanceTick
  | stale (o : DeadlineObject) (k : Ticks) (rest : List Deadline) (hlist : s.deadlines = ⟨o, k, true⟩ :: rest)
    (hgone : ¬ s.limits o) : BlockStep s { s with deadlines := rest }
  | lockVisit (p : Port) (i : LockIndex) (hengine : s.engine = .busy p (.locks i)) :
    BlockStep s { s.visitLock p i with engine := .busy p (Position.locks i).next }
  | barrierVisit (p : Port) (b : BarrierIndex) (hengine : s.engine = .busy p (.barriers b)) :
    BlockStep s { s.visitBarrier p b with engine := .busy p (Position.barriers b).next }
  | finalStep (p : Port) (hengine : s.engine = .busy p .final) : BlockStep s (s.reportSweepEnd p).nextSweep
  | deviceReset : BlockStep s s.deviceReset

/-! ### Each command of the lock table -/

theorem OwnerStep.of_allocLock {s : State} {p : Port} (hlive : s.attached p = true) (k : Kind) (lease : Word) :
    OwnerStep s .alloc p (allocLock p k lease s).1 := by
  cases hfree : s.freeLocks with
  | nil =>
    rw [allocLock_of_empty hfree]
    exact .idle
  | cons i rest =>
    rw [allocLock_of_head hfree]
    exact .lock _ (.allocate i k lease rest hlive hfree)

theorem OwnerStep.of_retireLock (s : State) (p : Port) (h : Handle) : OwnerStep s .retire p (retireLock p h s).1 := by
  have hrefusal := retireRefusal_eq p h s
  split_ifs at hrefusal with hgen hfree hfixed howner huse
  case neg =>
    rw [retireLock_of_passes hrefusal]
    exact .lock _ (.retire h.index ((LockState.ne_free_iff _).1 hfree) hfixed huse)
  all_goals
    rw [retireLock_of_refusal hrefusal]
    exact .idle

theorem OwnerStep.of_defineFixedLock {s : State} {p : Port} {a : Args}
    (hflight : (s.unit p).inFlight = some ⟨.defineFixed, a, .handed false⟩) :
    OwnerStep s .defineFixed p (defineFixedLock a.fixedIndex a.fixedKind a.lease s).1 := by
  by_cases huse : (s.lock a.fixedIndex).inUse = true
  · rw [defineFixedLock_of_inUse huse]
    exact .idle
  · rw [defineFixedLock_of_not_inUse huse]
    exact .lock _ (.define a hflight huse)

theorem OwnerStep.of_queryLock {p : Port} (s : State) (h : Handle) : OwnerStep s .query p (queryLock h s).1 := by
  rw [queryLock_eq]
  split_ifs <;> exact .idle

theorem OwnerStep.of_queueRequest {s : State} {p : Port} {r : Requester} {h : Handle} {m : Mode} {limit : Word}
    (hport : r.port = p) (hlive : s.attached r.port = true) (hpass : AcquirePasses s r h m)
    (hwait : ¬((s.lock h.index).queue = [] ∧ (s.lock h.index).Accepts m)) (hlimit : limit ≠ 0) :
    OwnerStep s .acquire p (queueRequest r h.index m limit s).1 := by
  by_cases hcap : (s.pool r.port).cap ≤ (s.pool r.port).count
  · rw [queueRequest_of_cap hcap]
    exact .idle
  by_cases hpool : s.freeRecords = 0
  · rw [queueRequest_of_pool_empty (not_le.1 hcap) hpool]
    exact .idle
  have hrecord := State.recordRefusal_eq_none (not_le.1 hcap) hpool
  by_cases hroom : s.freeRoom r.port < reservationsNeeded (s.lock h.index) m
  · rw [queueRequest_of_inbox_full hrecord hroom]
    exact .idle
  · rw [queueRequest_of_room hrecord hroom]
    exact .lock _ (.wait r h m limit hport hlive hpass hwait hlimit hrecord hroom)

theorem OwnerStep.of_acquireLock {s : State} {p : Port} {r : Requester} (hport : r.port = p)
    (hlive : s.attached r.port = true) (h : Handle) (m : Mode) (limit : Word) :
    OwnerStep s .acquire p (acquireLock r h m limit s).1 := by
  by_cases hpass : AcquirePasses s r h m
  · by_cases hwait : (s.lock h.index).queue = [] ∧ (s.lock h.index).Accepts m
    · obtain ⟨hqueue, haccepts⟩ := hwait
      rw [acquireLock_of_grant hpass hqueue haccepts]
      by_cases hlease : (s.lock h.index).Leases m
      · by_cases hfull : 16 ≤ (s.inbox r.port).entries.length + (s.inbox r.port).reserved
        · rw [grantNow_of_inbox_full hlease hfull]
          exact .idle
        · rw [grantNow_of_room hlease hfull]
          exact .lock _ (.grantLease r h m hlive hpass hqueue haccepts hlease hfull)
      · rw [grantNow_of_not_leases hlease]
        exact .lock _ (.grant r h m hlive hpass hqueue haccepts hlease)
    · rw [acquireLock_of_must_wait hpass hwait]
      split_ifs with hlimit
      · exact .idle
      · exact .of_queueRequest hport hlive hpass hwait hlimit
  · rw [acquireLock_of_refusal (acquireRefusal_of_not_passes hpass)]
    exact .idle

theorem OwnerStep.of_releaseLock {p : Port} (s : State) (r : Requester) (h : Handle) :
    OwnerStep s .release p (releaseLock r h s).1 := by
  rw [releaseLock_eq]
  split_ifs with hgen hfree hexclusive hshared
  · exact .idle
  · exact .idle
  · exact .lock _ (.evaluated _ _ _ (.one (.endHold r _ _ hexclusive (.inl rfl))))
  · exact .lock _ (.evaluated _ _ _ (.one (.narrow _ _ List.erase_sublist (.inl rfl))))
  · exact .idle

theorem OwnerStep.of_downgradeLock {p : Port} (s : State) (r : Requester) (h : Handle) :
    OwnerStep s .downgrade p (downgradeLock r h s).1 := by
  rw [downgradeLock_eq]
  split_ifs with hgen hfree hexclusive hkind
  case neg => exact .lock _ (.evaluated _ _ _ (.one (.endHold r [r] _ (not_not.1 hexclusive) (.inr rfl))))
  all_goals exact .idle

theorem OwnerStep.of_renewLease {p : Port} (s : State) (r : Requester) (h : Handle) :
    OwnerStep s .renew p (renewLease r h s).1 := by
  rw [renewLease_eq]
  split_ifs with hgen hfree hexclusive hperiod
  case neg => exact .lock _ (.renew h.index r (not_not.1 hexclusive) hperiod)
  all_goals exact .idle

theorem OwnerStep.of_cancelWait (s : State) (p : Port) (n : BitVec 8) : OwnerStep s .cancel p (cancelWait p n s).1 := by
  cases hfind : s.findTicket p n with
  | none =>
    rw [cancelWait_of_none hfind]
    exact .idle
  | some found =>
    obtain ⟨i, w⟩ := found
    obtain ⟨hmem, -⟩ := State.mem_queue_of_findTicket hfind
    rw [cancelWait_of_some hfind]
    exact .lock _ (.evaluated _ i _ (.one (.discard w hmem)))

/-! ### Each command of the barrier unit -/

theorem OwnerStep.of_joinBarrier {s : State} {p : Port} {r : Requester} (hlive : s.attached r.port = true)
    (b : BarrierIndex) :
    OwnerStep s .join p (joinBarrier r b s).1 := by
  rw [joinBarrier_eq]
  split_ifs with hmember hfull
  · exact .idle
  · exact .idle
  · exact .barrier r b _ hlive (.join hmember hfull)

theorem OwnerStep.of_leaveBarrier {s : State} {p : Port} {r : Requester} (hlive : s.attached r.port = true)
    (b : BarrierIndex) :
    OwnerStep s .leave p (leaveBarrier r b s).1 := by
  rw [leaveBarrier_eq]
  by_cases hmember : r ∈ (s.barrier b).members
  · rw [if_neg (not_not.2 hmember)]
    by_cases harrived : r ∈ (s.barrier b).arrived
    · rw [if_pos harrived]
      exact .idle
    · rw [if_neg harrived]
      by_cases hcomplete : (s.barrier b).arrived ≠ [] ∧ ∀ m ∈ (s.barrier b).members.erase r, m ∈ (s.barrier b).arrived
      · rw [if_pos hcomplete]
        exact .barrier r b _ hlive (.leaveOpens hmember harrived)
      · rw [if_neg hcomplete]
        exact .barrier r b _ hlive (.leave hmember harrived hcomplete)
  · rw [if_pos hmember]
    exact .idle

theorem OwnerStep.of_arriveBarrier {s : State} {p : Port} {r : Requester} (hlive : s.attached r.port = true)
    (b : BarrierIndex) :
    OwnerStep s .arrive p (arriveBarrier r b s).1 := by
  rw [arriveBarrier_eq]
  by_cases hmember : r ∈ (s.barrier b).members
  · rw [if_neg (not_not.2 hmember)]
    split_ifs with hbroken harrived hcomplete hfull
    · exact .idle
    · exact .idle
    · exact .barrier r b _ hlive .arriveOpens
    · exact .idle
    · exact .barrier r b _ hlive (.arrive hmember hbroken harrived hcomplete hfull)
  · rw [if_pos hmember]
    exact .idle

theorem OwnerStep.of_withdrawBarrier {s : State} {p : Port} {r : Requester} (hlive : s.attached r.port = true)
    (b : BarrierIndex) :
    OwnerStep s .withdraw p (withdrawBarrier r b s).1 := by
  rw [withdrawBarrier_eq]
  by_cases hmember : r ∈ (s.barrier b).members
  · rw [if_neg (not_not.2 hmember)]
    by_cases harrived : r ∈ (s.barrier b).arrived
    · rw [if_neg (not_not.2 harrived)]
      exact .barrier r b _ hlive (.withdraw harrived)
    · rw [if_pos harrived]
      exact .idle
  · rw [if_pos hmember]
    exact .idle

theorem OwnerStep.of_breakBarrier {s : State} {p : Port} {r : Requester} (hlive : s.attached r.port = true)
    (b : BarrierIndex) :
    OwnerStep s .breakBarrier p (breakBarrier r b s).1 := by
  by_cases hmember : r ∈ (s.barrier b).members
  · rw [breakBarrier_of_member hmember]
    cases hstate : (s.barrier b).state with
    | gathering => exact .barrier r b _ hlive .breakRound
    | idle => exact .barrier r b _ hlive (.breakIdle hmember hstate)
    | broken => exact .idle
  · rw [breakBarrier_of_not_member hmember]
    exact .idle

theorem OwnerStep.of_rearmBarrier {s : State} {p : Port} {r : Requester} (hlive : s.attached r.port = true)
    (b : BarrierIndex) :
    OwnerStep s .rearm p (rearmBarrier r b s).1 := by
  rw [rearmBarrier_eq]
  split_ifs with hmember hbroken
  · exact .idle
  · exact .barrier r b _ hlive (.rearm (not_not.1 hbroken))
  · exact .idle

/-! ### Each command of the session unit and of the inbox unit -/

theorem OwnerStep.of_attachPort (s : State) (p : Port) : OwnerStep s .attach p (attachPort p s).1 := by
  by_cases hdetached : (s.session p).state = .detached
  · rw [attachPort_of_detached hdetached]
    exact .attach rfl hdetached
  · rw [attachPort_of_not_detached hdetached]
    exact .idle

theorem OwnerStep.of_forceDetachPort {p : Port} (s : State) (q : Port) :
    OwnerStep s .forceDetach p (forceDetachPort q s).1 := by
  rw [forceDetachPort_eq]
  split_ifs with hdetached
  · exact .idle
  · exact .depart q .forced (by simpa using hdetached) (.inr rfl)

theorem OwnerStep.of_postNote (s : State) (p q : Port) (g n : Agent) (tag : BitVec 8) (data : BitVec 32) :
    OwnerStep s .post p (postNote p q g n tag data s).1 := by
  rw [postNote_eq]
  split_ifs with hdetached hfull
  · exact .idle
  · exact .idle
  · exact .deliver q _ (by simpa using hdetached) hfull

/-- What the owner of command `k` does to the blocks. -/
theorem OwnerStep.of_owner {s : State} {k : Command} {p : Port} {a : Args}
    (hflight : (s.unit p).inFlight = some ⟨k, a, .handed false⟩) (hlive : k = .attach ∨ s.attached p = true) :
    OwnerStep s k p (k.owner p a s).1 := by
  cases k
  case attach => exact .of_attachPort s p
  all_goals replace hlive : s.attached p = true := hlive.resolve_left nofun
  case detach => exact .depart p .detach hlive (.inl ⟨rfl, rfl⟩)
  case touch | barrierQuery => exact .idle
  case forceDetach => exact .of_forceDetachPort s _
  case alloc => exact .of_allocLock hlive _ _
  case retire => exact .of_retireLock s p _
  case defineFixed => exact .of_defineFixedLock hflight
  case query => exact .of_queryLock s _
  case acquire => exact .of_acquireLock (r := ⟨p, a.lockAgent⟩) rfl hlive _ _ _
  case release => exact .of_releaseLock s _ _
  case downgrade => exact .of_downgradeLock s _ _
  case renew => exact .of_renewLease s _ _
  case cancel => exact .of_cancelWait s p _
  case post => exact .of_postNote s p _ _ _ _ _
  case join => exact .of_joinBarrier (r := ⟨p, a.barrierAgent⟩) hlive _
  case leave => exact .of_leaveBarrier (r := ⟨p, a.barrierAgent⟩) hlive _
  case arrive => exact .of_arriveBarrier (r := ⟨p, a.barrierAgent⟩) hlive _
  case withdraw => exact .of_withdrawBarrier (r := ⟨p, a.barrierAgent⟩) hlive _
  case breakBarrier => exact .of_breakBarrier (r := ⟨p, a.barrierAgent⟩) hlive _
  case rearm => exact .of_rearmBarrier (r := ⟨p, a.barrierAgent⟩) hlive _

theorem OwnerStep.blockStep {s t : State} {k : Command} {p : Port} (h : OwnerStep s k p t) : BlockStep s t := by
  cases h with
  | idle => exact .idle
  | lock t h => exact .lock k p t h
  | barrier r b t hlive h => exact .barrier r b k t hlive h
  | attach hk hdetached => exact .attach p hdetached
  | depart q c hlive => exact .depart q c hlive
  | deliver q e hlive hroom => exact .deliver q e hlive hroom

/-! ### Each expiry (R61) -/

/-- The entry of an expired wait leaves the list with its record (R25). -/
theorem State.freeRecord_of_head {s : State} {i : LockIndex} {w : WaiterRecord} {k : Ticks} {rest : List Deadline}
    (hlist : s.deadlines = ⟨.wait i w.requester, k, true⟩ :: rest) :
    State.freeRecord { s with deadlines := rest } i w = s.freeRecord i w := by
  have hfilter : s.deadlines.filter (fun d => d.object != .wait i w.requester) =
      rest.filter fun d => d.object != .wait i w.requester := by
    simp [hlist]
  exact congrArg (fun l => { s.freeRecord i w with deadlines := l }) hfilter.symm

/-- R62, R63: a wait that expires ends at its lock, or has no record any more. -/
theorem State.expireWait_cases {s : State} {i : LockIndex} {r : Requester} {k : Ticks} {rest : List Deadline}
    (hlist : s.deadlines = ⟨.wait i r, k, true⟩ :: rest) :
    (∃ u, LockSteps i s u ∧ State.expireWait { s with deadlines := rest } i r = u.evaluate i) ∨
      (¬ s.limits (.wait i r) ∧ State.expireWait { s with deadlines := rest } i r = { s with deadlines := rest }) := by
  unfold State.expireWait
  cases hfind : (State.lock { s with deadlines := rest } i).queue.find? fun w => w.requester == r with
  | none =>
    refine .inr ⟨?_, rfl⟩
    rintro ⟨w, hmem, rfl⟩
    exact absurd (List.find?_eq_none.1 hfind w hmem) (by simp)
  | some w =>
    have hmem : w ∈ (s.lock i).queue := List.mem_of_find?_eq_some hfind
    obtain rfl : w.requester = r := by simpa using List.find?_some hfind
    dsimp only
    rw [State.freeRecord_of_head hlist]
    refine .inl ⟨_, .one ?_, rfl⟩
    split_ifs with hlive
    · exact .expire w hmem hlive
    · exact .discard w hmem

/-- R66, R67: a lease that expires ends its hold, or has none any more. -/
theorem State.expireLease_cases {s : State} {i : LockIndex} {k : Ticks} {rest : List Deadline}
    (hlist : s.deadlines = ⟨.lease i, k, true⟩ :: rest) :
    (∃ u, LockSteps i s u ∧ State.expireLease { s with deadlines := rest } i = u.evaluate i) ∨
      (¬ s.limits (.lease i) ∧ State.expireLease { s with deadlines := rest } i = { s with deadlines := rest }) := by
  unfold State.expireLease
  dsimp only
  cases hholder : (State.lock { s with deadlines := rest } i).exclusiveHolder with
  | none => exact .inr ⟨fun hlimit => hlimit.1 hholder, rfl⟩
  | some r => exact .inl ⟨_, .one (.revoke r k rest hlist hholder), rfl⟩

theorem BlockStep.of_expireWait {s : State} {i : LockIndex} {r : Requester} {k : Ticks} {rest : List Deadline}
    (hlist : s.deadlines = ⟨.wait i r, k, true⟩ :: rest) :
    BlockStep s (State.expireWait { s with deadlines := rest } i r) := by
  obtain ⟨u, hsteps, hexpire⟩ | ⟨hgone, hexpire⟩ := State.expireWait_cases hlist
  · rw [hexpire]
    exact .lock .cancel r.port _ (.evaluated _ i u hsteps)
  · rw [hexpire]
    exact .stale _ k rest hlist hgone

theorem BlockStep.of_expireLease {s : State} {i : LockIndex} {k : Ticks} {rest : List Deadline}
    (hlist : s.deadlines = ⟨.lease i, k, true⟩ :: rest) :
    BlockStep s (State.expireLease { s with deadlines := rest } i) := by
  obtain ⟨u, hsteps, hexpire⟩ | ⟨hgone, hexpire⟩ := State.expireLease_cases hlist
  · rw [hexpire]
    exact .lock .release 0 _ (.evaluated _ i u hsteps)
  · rw [hexpire]
    exact .stale _ k rest hlist hgone

/-- A departure filters the deadline list and reads nothing else of it. -/
theorem State.depart_of_deadlines (s : State) (l : List Deadline) (p : Port) (c : Cause) :
    State.depart { s with deadlines := l } p c =
      { s.depart p c with deadlines := l.filter fun d => d.object != .keepalive p } := by
  obtain ⟨_, _, _, _, _, _, _, _, _, _, _, _, _, _, _, engine, _, _, _, _⟩ := s
  cases engine <;> rfl

/-- The entry of an expired keepalive leaves the list with the departure (R122). -/
theorem State.depart_of_head {s : State} {p : Port} {k : Ticks} {rest : List Deadline}
    (hlist : s.deadlines = ⟨.keepalive p, k, true⟩ :: rest) (c : Cause) :
    State.depart { s with deadlines := rest } p c = s.depart p c := by
  have hfilter : (s.depart p c).deadlines = rest.filter fun d => d.object != .keepalive p := by
    rw [s.depart_deadlines, hlist]
    simp
  rw [State.depart_of_deadlines, ← hfilter]

/-- R121: a keepalive that expires ends its port's session, or finds none. -/
theorem State.expireKeepalive_cases {s : State} {p : Port} {k : Ticks} {rest : List Deadline}
    (hlist : s.deadlines = ⟨.keepalive p, k, true⟩ :: rest) :
    (s.attached p = true ∧ State.expireKeepalive { s with deadlines := rest } p = s.depart p .keepalive) ∨
      (s.attached p = false ∧ State.expireKeepalive { s with deadlines := rest } p = { s with deadlines := rest }) := by
  unfold State.expireKeepalive
  split_ifs with hlive
  · exact .inl ⟨hlive, State.depart_of_head hlist .keepalive⟩
  · exact .inr ⟨Bool.eq_false_iff.2 hlive, rfl⟩

theorem BlockStep.of_expireKeepalive {s : State} {p : Port} {k : Ticks} {rest : List Deadline}
    (hlist : s.deadlines = ⟨.keepalive p, k, true⟩ :: rest) :
    BlockStep s (State.expireKeepalive { s with deadlines := rest } p) := by
  obtain ⟨hlive, hexpire⟩ | ⟨hlive, hexpire⟩ := State.expireKeepalive_cases hlist
  · rw [hexpire]
    exact .depart p .keepalive hlive
  · rw [hexpire]
    exact .stale _ k rest hlist fun hlimit => Bool.eq_false_iff.1 hlive hlimit.1

/-! ### Every event -/

/-- From `u` to `t`, nothing has changed but what no block other than the interfaces, the command units, the reset inputs
and the prescaler reads. -/
def HostOnly (u t : State) : Prop :=
  t = { u with
    interfaces := t.interfaces, units := t.units, prescale := t.prescale, tickLength := t.tickLength
    cycleCount := t.cycleCount, supervisor := t.supervisor, resetLow := t.resetLow, prstLow := t.prstLow
    pending := t.pending }

theorem Written.blockStep {s t : State} {p : Port} {off : Offset} (h : Written s p off t) :
    ∃ u, BlockStep s u ∧ HostOnly u t := by
  cases h with
  | ignored | stored | overran | cleared | prescale => exact ⟨s, .idle, rfl⟩
  | taken v =>
    rw [State.takeCommand_eq]
    exact ⟨_, .renewKeepalive p, rfl⟩
  | popped => exact ⟨_, .pop p, rfl⟩
  | summary v => exact ⟨_, .summary p v, rfl⟩
  | interval v => exact ⟨_, .interval p v, rfl⟩
  | cap v => exact ⟨_, .cap p v, rfl⟩
  | reset => exact ⟨_, .portReset p, rfl⟩

theorem Event.blockStep {s t : State} {c : Instr} (h : Event s c t) : ∃ u, BlockStep s u ∧ HostOnly u t := by
  cases h with
  | unchanged | refused | completed | heldInReset | released | resetnRelease => exact ⟨s, .idle, rfl⟩
  | served k p a hflight hlive => exact ⟨_, (OwnerStep.of_owner hflight hlive).blockStep, rfl⟩
  | written _ p off v hwrite hreset hheld t h => exact h.blockStep
  | ticklRead p =>
    refine ⟨s, .idle, ?_⟩
    unfold State.readTickl
    split_ifs <;> rfl
  | portReset p => exact ⟨_, .portReset p, rfl⟩
  | deviceReset => exact ⟨_, .deviceReset, rfl⟩
  | tick => exact ⟨_, .tick, rfl⟩
  | waitExpiry i r k rest hlist => exact ⟨_, .of_expireWait hlist, rfl⟩
  | leaseExpiry i k rest hlist => exact ⟨_, .of_expireLease hlist, rfl⟩
  | keepaliveExpiry p k rest hlist => exact ⟨_, .of_expireKeepalive hlist, rfl⟩
  | lockVisit p i hengine => exact ⟨_, .lockVisit p i hengine, rfl⟩
  | barrierVisit p b hengine => exact ⟨_, .barrierVisit p b hengine, rfl⟩
  | finalStep p hengine => exact ⟨_, .finalStep p hengine, rfl⟩

/-- A step of the block: the queue of waiting commands aside, what one event does to the blocks. -/
theorem BlockStep.of_step {s t : State} (h : step s = .next t) :
    ∃ rest u, BlockStep { s with pending := rest } u ∧ HostOnly u t := by
  obtain rfl | ⟨c, rest, hevent⟩ := Event.of_step h
  · exact ⟨t.pending, t, .idle, rfl⟩
  · exact ⟨rest, hevent.blockStep⟩

end Sys2Proof.Machine
end

section
/-! PROOFS. What the steps of the blocks leave as it was: the frames of the lock table's steps and of the barrier unit's, and
the queue of waiting commands. -/

namespace Sys2Proof.Machine

/-! ### The lock table -/

theorem QueuesOnly.refl (s : State) : QueuesOnly s s := rfl

theorem QueuesOnly.trans {s t u : State} (h : QueuesOnly s t) (h' : QueuesOnly t u) : QueuesOnly s u := by
  rw [queuesOnly_iff] at h h' ⊢
  simp_all only [and_self]

theorem QueuesOnly.of_lockStep {i : LockIndex} {s t : State} (h : LockStep i s t) : QueuesOnly s t := by
  rw [queuesOnly_iff]
  cases h <;> simp [State.expireRecord, State.revoke, State.endHold]

theorem QueuesOnly.of_lockSteps {i : LockIndex} {s t : State} (h : LockSteps i s t) : QueuesOnly s t :=
  h.keeps (.refl s) fun _ _ hstep hs => hs.trans (.of_lockStep hstep)

/-- The parts a lock table step leaves, one by one. -/
theorem QueuesOnly.attached {s t : State} (h : QueuesOnly s t) (p : Port) : t.attached p = s.attached p := by
  rw [h]; rfl

theorem QueuesOnly.barrier {s t : State} (h : QueuesOnly s t) (b : BarrierIndex) : t.barrier b = s.barrier b := by
  rw [h]; rfl

/-- A step at one lock leaves the others as they were. -/
theorem LockStep.lock_ne {i j : LockIndex} {s t : State} (h : LockStep i s t) (hj : j ≠ i) : t.lock j = s.lock j := by
  cases h with
  | discard w => rw [State.discardRecord_lock, if_neg hj]
  | grant w => rw [State.grantHead_lock, if_neg hj]
  | expire w =>
    rw [State.expireRecord, State.dropReservations_lock, State.deliverReserved_lock, State.freeRecord_lock, if_neg hj]
  | revoke r k rest =>
    rw [State.revoke, State.deliverReserved_lock, State.setLock_lock_ne _ _ _ _ hj]
    rfl
  | endHold r shared mark => rw [State.endHold, State.endLease_lock, State.setLock_lock_ne _ _ _ _ hj]
  | narrow => rw [State.setLock_lock_ne _ _ _ _ hj]

theorem LockSteps.lock_ne {i j : LockIndex} {s t : State} (h : LockSteps i s t) (hj : j ≠ i) : t.lock j = s.lock j :=
  h.keeps (P := fun u => u.lock j = s.lock j) rfl fun _ _ hstep hs => (hstep.lock_ne hj).trans hs

/-- From `s` to `t`, nothing has changed but what the lock table keeps, the inboxes and the deadline list. -/
def LockTableOnly (s t : State) : Prop :=
  t = { s with
    locks := t.locks, freeLocks := t.freeLocks, freeRecords := t.freeRecords, poolPorts := t.poolPorts
    inboxes := t.inboxes, deadlines := t.deadlines }

theorem QueuesOnly.lockTableOnly {s t : State} (h : QueuesOnly s t) : LockTableOnly s t := by
  rw [queuesOnly_iff] at h
  cases s
  cases t
  simp_all [LockTableOnly]

theorem LockTableOnly.of_lockMove {s t : State} {p : Port} {k : Command} (h : LockMove s p k t) : LockTableOnly s t := by
  cases h with
  | evaluated k i u hsteps => exact (QueuesOnly.of_lockSteps hsteps.evaluate).lockTableOnly
  | _ => rfl

/-! ### The barrier unit -/

/-- From `s` to `t`, nothing has changed but the barriers and the inboxes. -/
def BarriersOnly (s t : State) : Prop := t = { s with barriers := t.barriers, inboxes := t.inboxes }

theorem BarriersOnly.of_barrierUnitOnly {s t : State} (h : BarrierUnitOnly s t) (hunits : t.units = s.units) :
    BarriersOnly s t := by
  unfold BarrierUnitOnly at h
  rw [hunits] at h
  exact h

theorem BarriersOnly.of_barrierMove {s t : State} {r : Requester} {b : BarrierIndex} {k : Command}
    (h : BarrierMove s r b k t) :
    BarriersOnly s t := by
  cases h with
  | leaveOpens =>
    exact .of_barrierUnitOnly (((BarrierUnitOnly.refl s).setBarrier b _).openBarrier b) (by simp)
  | arriveOpens => exact .of_barrierUnitOnly ((BarrierUnitOnly.refl s).openBarrier b) (by simp)
  | breakRound => exact .of_barrierUnitOnly ((BarrierUnitOnly.refl s).breakRound b r.port) (by simp)
  | _ => rfl

/-! ### What no block writes (log 1, R54, R126, R127, R163) -/

/-- From `s` to `t`, the prescale value, the supervisor identity, the pins and the waiting commands have not changed. -/
def SameInputs (s t : State) : Prop :=
  t.prescale = s.prescale ∧ t.supervisor = s.supervisor ∧ t.resetLow = s.resetLow ∧ t.prstLow = s.prstLow ∧
    t.pending = s.pending

theorem SameInputs.refl (s : State) : SameInputs s s := ⟨rfl, rfl, rfl, rfl, rfl⟩

theorem SameInputs.resetPort (s : State) (p : Port) : SameInputs s (s.resetPort p) := by
  unfold State.resetPort State.resetWindow
  split_ifs <;> simp [SameInputs]

theorem SameInputs.writeKalive (s : State) (p : Port) (v : Word) : SameInputs s (s.writeKalive p v) := by
  unfold State.writeKalive
  split_ifs <;> simp [SameInputs]

theorem SameInputs.writeWcap (s : State) (p : Port) (v : Word) : SameInputs s (s.writeWcap p v) := by
  unfold State.writeWcap
  split_ifs <;> simp [SameInputs]

theorem BlockStep.sameInputs {s t : State} (h : BlockStep s t) (hreset : t ≠ s.deviceReset) : SameInputs s t := by
  cases h with
  | lock k p t h => rw [LockTableOnly.of_lockMove h]; exact .refl s
  | barrier r b k t hlive h => rw [BarriersOnly.of_barrierMove h]; exact .refl s
  | depart p c => simp [SameInputs]
  | portReset p => exact .resetPort s p
  | interval p v => exact .writeKalive s p v
  | cap p v => exact .writeWcap s p v
  | renewKeepalive p => simp [SameInputs]
  | lockVisit p i => rw [QueuesOnly.of_lockSteps (.visitLock s p i)]; exact .refl s
  | barrierVisit p b => simp [SameInputs]
  | finalStep p => rw [State.nextSweep_frame]; exact .refl s
  | deviceReset => exact absurd rfl hreset
  | _ => exact .refl s

theorem BlockStep.pending_eq {s t : State} (h : BlockStep s t) : t.pending = s.pending := by
  by_cases hreset : t = s.deviceReset
  · rw [hreset]
    rfl
  · obtain ⟨-, -, -, -, hpending⟩ := h.sameInputs hreset
    exact hpending

theorem Event.pending_eq {s t : State} {c : Instr} (h : Event s c t) : t.pending = s.pending := by
  cases h with
  | served k p a hflight hlive => exact (OwnerStep.of_owner hflight hlive).blockStep.pending_eq
  | written _ p off v hwrite hreset hheld t h =>
    cases h with
    | taken v => rw [State.takeCommand_eq]; simp
    | interval v => exact (BlockStep.interval p v).pending_eq
    | cap v => exact (BlockStep.cap p v).pending_eq
    | reset => exact (BlockStep.portReset p).pending_eq
    | _ => rfl
  | ticklRead p =>
    unfold State.readTickl
    split_ifs <;> rfl
  | portReset p => exact (BlockStep.portReset p).pending_eq
  | waitExpiry i r k rest hlist => exact (BlockStep.of_expireWait hlist).pending_eq
  | leaseExpiry i k rest hlist => exact (BlockStep.of_expireLease hlist).pending_eq
  | keepaliveExpiry p k rest hlist => exact (BlockStep.of_expireKeepalive hlist).pending_eq
  | lockVisit p i hengine => exact (BlockStep.lockVisit p i hengine).pending_eq
  | barrierVisit p b hengine => exact (BlockStep.barrierVisit p b hengine).pending_eq
  | finalStep p hengine => exact (BlockStep.finalStep p hengine).pending_eq
  | _ => rfl

end Sys2Proof.Machine
end

section
/-! PROOFS. That every command answers a next state. -/

open Sys2Proof Sys2Proof.Machine

/-- Settles O2: every arm of `exec` answers a next state, and `Event.pending_eq` says what the event leaves waiting. -/
theorem everyCommandAnswersNext : Obligations.EveryCommandAnswersNext := by
  intro c s
  have hnext : ∃ t, exec c s = .next t := by
    cases c <;> exact ⟨_, rfl⟩
  obtain ⟨t, hexec⟩ := hnext
  exact ⟨t, hexec, (Event.of_exec hexec).pending_eq⟩
end

section
/-! PROOFS. The port states, the sweep engine and the departure queue in every step (R132, R133). -/

namespace Sys2Proof.Machine

/-- What one event keeps of the blocks, every step keeps: `P` reads neither the waiting commands nor the host's side. -/
theorem kept_of_step {P : State → Prop} (hpending : ∀ s rest, P s → P { s with pending := rest })
    (hhost : ∀ u t, HostOnly u t → P u → P t) (hblock : ∀ s u, BlockStep s u → P s → P u) {s t : State}
    (h : step s = .next t) (hs : P s) : P t := by
  obtain ⟨rest, u, hu, ht⟩ := BlockStep.of_step h
  exact hhost u t ht (hblock _ u hu (hpending s rest hs))

/-! ### What the session records become -/

theorem State.startSession_session (s : State) (p q : Port) :
    (s.startSession p).session q =
      if q = p then
        { s.session p with state := .attached, generation := nextGeneration (s.session p).generation }
      else s.session q :=
  s.setSession_session p _ q

theorem State.resetWindow_session (s : State) (p q : Port) :
    (s.resetWindow p).session q = if q = p then { s.session p with summary := 0, keepalive := 0 } else s.session q :=
  s.setSession_session p _ q

theorem State.writeDsum_session (s : State) (p q : Port) (v : Word) :
    (s.writeDsum p v).session q =
      if q = p then { s.session p with summary := (s.session p).summary &&& ~~~(v.extractLsb' 0 4) } else s.session q :=
  s.setSession_session p _ q

theorem State.writeKalive_session (s : State) (p q : Port) (v : Word) :
    (s.writeKalive p v).session q = if q = p then { s.session p with keepalive := v } else s.session q := by
  rw [← s.setSession_session p]
  unfold State.writeKalive
  split_ifs <;> simp

theorem State.writeWcap_frame (s : State) (p : Port) (v : Word) :
    s.writeWcap p v = { s with poolPorts := (s.writeWcap p v).poolPorts } := by
  unfold State.writeWcap
  split_ifs <;> rfl

theorem State.writeKalive_frame (s : State) (p : Port) (v : Word) :
    s.writeKalive p v =
      { s with sessions := (s.writeKalive p v).sessions, deadlines := (s.writeKalive p v).deadlines } := by
  unfold State.writeKalive
  split_ifs <;> rfl

/-! ### The sweep's conditions -/

theorem Engine.port_eq_none_iff (e : Engine) : e.port = none ↔ e = .idle := by cases e <;> simp [Engine.port]

theorem SweepQueueSound.of_eq {s t : State} (h : SweepQueueSound s)
    (hstate : ∀ p, (t.session p).state = (s.session p).state) (hport : t.engine.port = s.engine.port)
    (hqueue : t.departureQueue = s.departureQueue) : SweepQueueSound t := by
  obtain ⟨hsweeping, hpendingSweep, hnodup, hidle⟩ := h
  simp only [← Engine.port_eq_none_iff] at hidle
  simp only [SweepQueueSound, ← Engine.port_eq_none_iff, hstate, hport, hqueue]
  exact ⟨hsweeping, hpendingSweep, hnodup, hidle⟩

/-- A port that starts a session is neither swept nor queued, before or after. -/
theorem SweepQueueSound.startSession {s : State} {p : Port} (h : SweepQueueSound s)
    (hdetached : (s.session p).state = .detached) : SweepQueueSound (s.startSession p) := by
  obtain ⟨hsweeping, hpendingSweep, hnodup, hidle⟩ := h
  have hengine : s.engine.port ≠ some p := fun hp => by
    rw [(hsweeping p).2 hp] at hdetached
    exact absurd hdetached (by decide)
  have hqueue : p ∉ s.departureQueue := fun hp => by
    rw [(hpendingSweep p).2 hp] at hdetached
    exact absurd hdetached (by decide)
  refine ⟨fun q => ?_, fun q => ?_, hnodup, hidle⟩
  · rw [State.startSession_session]
    by_cases hq : q = p
    · subst hq
      simpa using (show (s.startSession q).engine.port ≠ some q from hengine)
    · rw [if_neg hq]
      exact hsweeping q
  · rw [State.startSession_session]
    by_cases hq : q = p
    · subst hq
      simpa using (show q ∉ (s.startSession q).departureQueue from hqueue)
    · rw [if_neg hq]
      exact hpendingSweep q

/-- R122, R134: the departing port becomes the swept one, or joins the queue behind it. -/
theorem SweepQueueSound.depart {s : State} {p : Port} (h : SweepQueueSound s) (hlive : s.attached p = true) (c : Cause) :
    SweepQueueSound (s.depart p c) := by
  obtain ⟨hsweeping, hpendingSweep, hnodup, hidle⟩ := h
  rw [State.attached_iff] at hlive
  have hengine := s.depart_engine p c
  have hqueue : p ∉ s.departureQueue := fun hp => by
    rw [(hpendingSweep p).2 hp] at hlive
    exact absurd hlive (by decide)
  by_cases hbusy : s.engine = .idle
  · rw [if_pos hbusy] at hengine
    obtain ⟨hengine, hqueue'⟩ := Prod.mk.inj hengine
    refine ⟨fun q => ?_, fun q => ?_, hqueue' ▸ hnodup, fun h => absurd (hengine.symm.trans h) nofun⟩
    · rw [State.depart_session, if_pos hbusy, hengine]
      by_cases hq : q = p
      · simp [hq, Engine.port]
      · have hother := hsweeping q
        rw [hbusy] at hother
        simpa [hq, Ne.symm hq, Engine.port] using hother
    · rw [State.depart_session, if_pos hbusy, hqueue']
      by_cases hq : q = p
      · simpa [hq] using hqueue
      · simpa [hq] using hpendingSweep q
  · rw [if_neg hbusy] at hengine
    obtain ⟨hengine, hqueue'⟩ := Prod.mk.inj hengine
    have hnot : s.engine.port ≠ some p := fun hp => by
      rw [(hsweeping p).2 hp] at hlive
      exact absurd hlive (by decide)
    refine ⟨fun q => ?_, fun q => ?_, ?_, fun h => absurd (hengine.symm.trans h) hbusy⟩
    · rw [State.depart_session, if_neg hbusy, hengine]
      by_cases hq : q = p
      · simpa [hq] using hnot
      · simpa [hq] using hsweeping q
    · rw [State.depart_session, if_neg hbusy, hqueue']
      by_cases hq : q = p
      · simp [hq]
      · simpa [hq] using hpendingSweep q
    · rw [hqueue']
      exact List.concat_eq_append ▸ hnodup.concat hqueue

theorem SweepQueueSound.resetWindow {s : State} (h : SweepQueueSound s) (p : Port) : SweepQueueSound (s.resetWindow p) := by
  refine h.of_eq (fun q => ?_) rfl rfl
  rw [State.resetWindow_session]
  by_cases hq : q = p
  · subst hq; rw [if_pos rfl]
  · rw [if_neg hq]

theorem SweepQueueSound.resetPort {s : State} (h : SweepQueueSound s) (p : Port) : SweepQueueSound (s.resetPort p) := by
  cases hlive : s.attached p with
  | true => rw [State.resetPort_of_attached hlive]; exact (h.depart hlive .portReset).resetWindow p
  | false => rw [State.resetPort_of_not_attached hlive]; exact h.resetWindow p

theorem Session.afterSweepOf_state (r : Session) (p q : Port) :
    (r.afterSweepOf p q).state = if q = p then .detached else r.state := by
  unfold Session.afterSweepOf
  split_ifs <;> rfl

/-- R140: the swept port becomes DETACHED, and the head of the queue, if there is one, the swept port. -/
theorem SweepQueueSound.finalStep {s : State} {p : Port} (h : SweepQueueSound s) (hengine : s.engine = .busy p .final) :
    SweepQueueSound (s.reportSweepEnd p).nextSweep := by
  obtain ⟨hsweeping, hpendingSweep, hnodup, hidle⟩ := h
  have hstate : ∀ q, (((s.reportSweepEnd p).session q)).state = if q = p then .detached else (s.session q).state := by
    intro q
    rw [State.reportSweepEnd_session, Session.afterSweepOf_state]
  have hswept : ∀ q, (s.session q).state = .sweeping ↔ p = q := by
    intro q
    rw [hsweeping q, hengine]
    simp [Engine.port]
  cases hqueue : s.departureQueue with
  | nil =>
    rw [State.nextSweep_of_empty (s := s.reportSweepEnd p) hqueue]
    refine ⟨fun q => ?_, fun q => ?_, hnodup, fun _ => hqueue⟩
    · refine Iff.trans (b := False) ?_ (by simp [Engine.port])
      change ((s.reportSweepEnd p).session q).state = .sweeping ↔ False
      rw [hstate]
      by_cases hq : q = p
      · simp [hq]
      · simp [hq, hswept, Ne.symm hq]
    · change ((s.reportSweepEnd p).session q).state = .pendingSweep ↔ q ∈ s.departureQueue
      rw [hstate, ← hpendingSweep q]
      by_cases hq : q = p
      · simp [hq, (hswept p).2 rfl]
      · simp [hq]
  | cons n rest =>
    have hn : (s.session n).state = .pendingSweep := (hpendingSweep n).2 (by simp [hqueue])
    have hnp : n ≠ p := by
      rintro rfl
      rw [(hswept n).2 rfl] at hn
      exact absurd hn (by decide)
    rw [hqueue, List.nodup_cons] at hnodup
    obtain ⟨hnot, hrest⟩ := hnodup
    have hsession : ∀ q, ((s.reportSweepEnd p).nextSweep.session q).state =
        if q = n then .sweeping else if q = p then .detached else (s.session q).state := by
      intro q
      rw [State.nextSweep_session, State.reportSweepEnd_departureQueue, hqueue, List.head?_cons]
      by_cases hq : q = n
      · simp [hq]
      · simp [hq, Ne.symm hq, hstate]
    have hnext := State.nextSweep_of_head (s := s.reportSweepEnd p) hqueue
    refine ⟨fun q => ?_, fun q => ?_, ?_, ?_⟩
    · rw [hsession, hnext]
      by_cases hq : q = n
      · simp [hq, Engine.port]
      · by_cases hqp : q = p
        · simp [hqp, Ne.symm hnp, Engine.port, hnp]
        · simp [hq, hqp, Ne.symm hq, Engine.port, hswept, Ne.symm hqp]
    · rw [hsession, hnext]
      by_cases hq : q = n
      · simpa [hq] using hnot
      · have hother := hpendingSweep q
        rw [hqueue, List.mem_cons, or_iff_right hq] at hother
        by_cases hqp : q = p
        · subst hqp
          simpa [hq, (hswept q).2 rfl] using hother
        · simpa [hq, hqp] using hother
    · rw [hnext]
      exact hrest
    · rw [hnext]
      exact nofun

theorem SweepQueueSound.reset : SweepQueueSound State.reset := by unfold SweepQueueSound; decide

theorem SweepQueueSound.blockStep {s t : State} (h : SweepQueueSound s) (hstep : BlockStep s t) : SweepQueueSound t := by
  cases hstep with
  | lock k p t hmove => rw [LockTableOnly.of_lockMove hmove]; exact h
  | barrier r b k t hlive hmove => rw [BarriersOnly.of_barrierMove hmove]; exact h
  | attach p hdetached => exact h.startSession hdetached
  | depart p c hlive => exact h.depart hlive c
  | portReset p => exact h.resetPort p
  | summary p v =>
    refine h.of_eq (fun q => ?_) rfl rfl
    rw [State.writeDsum_session]
    split_ifs with hq <;> simp [hq]
  | interval p v =>
    refine h.of_eq (fun q => ?_) (by rw [State.writeKalive_frame]) (by rw [State.writeKalive_frame])
    rw [State.writeKalive_session]
    split_ifs with hq <;> simp [hq]
  | cap p v => rw [State.writeWcap_frame]; exact h
  | renewKeepalive p => rw [State.renewKeepalive_eq]; exact h
  | lockVisit p i hengine =>
    exact h.of_eq (fun q => congrArg Session.state (s.visitLock_session p i q)) (by rw [hengine]; rfl)
      (s.visitLock_departureQueue p i)
  | barrierVisit p b hengine =>
    exact h.of_eq (fun q => congrArg Session.state (s.visitBarrier_session p b q)) (by rw [hengine]; rfl)
      (s.visitBarrier_departureQueue p b)
  | finalStep p hengine => exact h.finalStep hengine
  | deviceReset => exact SweepQueueSound.reset
  | _ => exact h

theorem SweepQueueSound.hostOnly {u t : State} (h : SweepQueueSound u) (hhost : HostOnly u t) : SweepQueueSound t := by
  rw [hhost]
  exact h

end Sys2Proof.Machine
end

section
/-! PROOFS. Every step keeps the conditions on the sweep. -/

open Sys2Proof Sys2Proof.Machine

/-- Settles O4: `SweepQueueSound.blockStep`, by the steps of the blocks; only the session unit and the sweep engine touch
what it reads. -/
theorem sweepQueueIsKept : Obligations.SweepQueueIsKept := by
  intro s t hsound hstep
  exact kept_of_step (fun _ _ h => h) (fun _ _ hhost h => h.hostOnly hhost) (fun _ _ hblock h => h.blockStep hblock)
    hstep hsound
end

section
/-! PROOFS. The barriers in every step (R95). -/

namespace Sys2Proof.Machine

/-! ### What the unit's operations leave of an entry -/

theorem Barrier.Sound.join {x : Barrier} (h : x.Sound) {r : Requester} (hnot : r ∉ x.members)
    (hroom : ¬ 8 ≤ x.members.length) : Barrier.Sound { x with members := x.members ++ [r] } := by
  obtain ⟨hmembers, -, harrived, hsubset, hgathering, -, hmissing⟩ := h
  refine ⟨List.concat_eq_append ▸ hmembers.concat hnot, ?_, harrived, fun q hq => by simp [hsubset q hq], hgathering,
    fun _ => by simp, fun hne => ?_⟩
  · simp only [List.length_append, List.length_singleton, Config.barrierMembers]
    omega
  · obtain ⟨q, hq, hout⟩ := hmissing hne
    exact ⟨q, List.mem_append_left _ hq, hout⟩

/-- An entry that loses members that have not arrived: it stays sound unless the arrived set has become complete. -/
theorem Barrier.Sound.lose {x : Barrier} (h : x.Sound) {l : List Requester} (hl : l.Sublist x.members)
    (hkept : ∀ q ∈ x.arrived, q ∈ l) (hincomplete : x.arrived ≠ [] → ∃ q ∈ l, q ∉ x.arrived) :
    Barrier.Sound { x with members := l, state := if l = [] then .idle else x.state } := by
  obtain ⟨hmembers, hlength, harrived, -, hgathering, -, -⟩ := h
  refine ⟨hmembers.sublist hl, hl.length_le.trans hlength, harrived, hkept, ?_, ?_, hincomplete⟩
  · by_cases hnil : l = []
    · have hempty : x.arrived = [] := List.eq_nil_iff_forall_not_mem.2 fun q hq => by
        have := hkept q hq
        simp [hnil] at this
      simp [hnil, hempty]
    · simpa [hnil] using hgathering
  · by_cases hnil : l = [] <;> simp [hnil]

/-- R100, R104: an entry with an empty arrived set. -/
theorem Barrier.Sound.cleared {x : Barrier} (h : x.Sound) {l : List Requester} (hl : l.Sublist x.members) {k : BarrierState}
    (phase : BitVec 8) (hk : k ≠ .gathering) (hbroken : k = .broken → l ≠ []) :
    Barrier.Sound ⟨k, phase, l, []⟩ := by
  obtain ⟨hmembers, hlength, -⟩ := h
  exact ⟨hmembers.sublist hl, hl.length_le.trans hlength, List.nodup_nil, by simp, by simpa using hk, hbroken, by simp⟩

theorem Barrier.Sound.arrive {x : Barrier} (h : x.Sound) {r : Requester} (hmember : r ∈ x.members) (hnot : r ∉ x.arrived)
    (hincomplete : ¬ ∀ m ∈ x.members, m ≠ r → m ∈ x.arrived) :
    Barrier.Sound { x with arrived := x.arrived ++ [r], state := .gathering } := by
  obtain ⟨hmembers, hlength, harrived, hsubset, -, -, -⟩ := h
  refine ⟨hmembers, hlength, List.concat_eq_append ▸ harrived.concat hnot, fun q hq => ?_, by simp, by simp, fun _ => ?_⟩
  · rw [List.mem_append, List.mem_singleton] at hq
    exact hq.elim (hsubset q) fun hqr => hqr ▸ hmember
  · push Not at hincomplete
    obtain ⟨m, hm, hne, hout⟩ := hincomplete
    exact ⟨m, hm, by simp [hne, hout]⟩

theorem Barrier.Sound.withdraw {x : Barrier} (h : x.Sound) {r : Requester} (hr : r ∈ x.arrived) :
    Barrier.Sound
      { x with
        arrived := x.arrived.erase r
        state := if x.arrived.erase r = [] then .idle else .gathering } := by
  obtain ⟨hmembers, hlength, harrived, hsubset, -, -, -⟩ := h
  refine ⟨hmembers, hlength, harrived.erase r, fun q hq => hsubset q (List.mem_of_mem_erase hq), ?_, ?_, fun _ => ?_⟩
  · by_cases hnil : x.arrived.erase r = [] <;> simp [hnil]
  · by_cases hnil : x.arrived.erase r = [] <;> simp [hnil]
  · exact ⟨r, hsubset r hr, harrived.not_mem_erase⟩

/-- BREAK at an IDLE barrier, and REARM at a BROKEN one: nobody has arrived. -/
theorem Barrier.Sound.setState {x : Barrier} (h : x.Sound) {k : BarrierState} (hx : x.state ≠ .gathering)
    (hk : k ≠ .gathering) (hbroken : k = .broken → x.members ≠ []) : Barrier.Sound { x with state := k } := by
  obtain ⟨-, -, -, -, hgathering, -⟩ := id h
  have hempty : x.arrived = [] := not_not.1 fun hne => hx (hgathering.2 hne)
  have hcleared := h.cleared (List.Sublist.refl _) x.phase hk hbroken
  rw [← hempty] at hcleared
  exact hcleared

/-! ### Every barrier -/

theorem BarriersSound.of_only {s t : State} (h : BarriersSound s) {b : BarrierIndex} {x : Barrier}
    (honly : OnlyBarrier b x s t) (hx : x.Sound) : BarriersSound t := by
  intro c
  by_cases hc : c = b
  · rw [hc, honly.1]
    exact hx
  · rw [honly.2 c hc]
    exact h c

/-- A port reset is a departure, it may be, and the reset of a window (R125). -/
theorem State.resetPort_frame (s : State) (p : Port) :
    s.resetPort p =
      { s with
        interfaces := (s.resetPort p).interfaces, units := (s.resetPort p).units, poolPorts := (s.resetPort p).poolPorts
        sessions := (s.resetPort p).sessions, engine := (s.resetPort p).engine
        departureQueue := (s.resetPort p).departureQueue, inboxes := (s.resetPort p).inboxes
        deadlines := (s.resetPort p).deadlines } := by
  cases hlive : s.attached p with
  | true =>
    rw [State.resetPort_of_attached hlive]
    rw [DepartureOnly.depart s p .portReset]
    rfl
  | false =>
    rw [State.resetPort_of_not_attached hlive]
    rfl

/-- The entry behind its lock: what else a step does to the state is not read. -/
theorem OnlyBarrier.of_barriers_eq {s t : State} {b : BarrierIndex} {x : Barrier}
    (h : t.barriers = (s.setBarrier b x).barriers) : OnlyBarrier b x s t := by
  have hbarrier : ∀ c, t.barrier c = (s.setBarrier b x).barrier c := fun c => by simp only [State.barrier, h]
  exact ⟨(hbarrier b).trans (s.setBarrier_barrier_self b x), fun c hc => (hbarrier c).trans (s.setBarrier_barrier_ne b x c hc)⟩

theorem BarriersSound.barrierMove {s t : State} (h : BarriersSound s) {r : Requester} {b : BarrierIndex} {k : Command}
    (hmove : BarrierMove s r b k t) : BarriersSound t := by
  have hx := h b
  obtain ⟨-, -, -, hsubset, -⟩ := id hx
  cases hmove with
  | join hnot hroom => exact h.of_only (.of_setBarrier s b _) (hx.join hnot hroom)
  | leave hmember hnot hincomplete =>
    refine h.of_only (.of_setBarrier s b _) (hx.lose List.erase_sublist (fun q hq => ?_) fun hne => ?_)
    · have hqr : q ≠ r := fun heq => hnot (heq ▸ hq)
      exact (List.mem_erase_of_ne hqr).2 (hsubset q hq)
    · by_contra! hall
      exact hincomplete ⟨hne, hall⟩
  | leaveOpens hmember hnot =>
    obtain ⟨honly, -⟩ := OpenedFrom.of_openBarrier s b { s.barrier b with members := (s.barrier b).members.erase r }
    exact h.of_only honly (hx.cleared List.erase_sublist _ (by decide) nofun)
  | arrive hmember hbroken hnot hincomplete hroom =>
    exact h.of_only (.of_barriers_eq rfl) (hx.arrive hmember hnot hincomplete)
  | arriveOpens =>
    obtain ⟨honly, -⟩ := OpenedFrom.of_openBarrier s b (s.barrier b)
    rw [State.setBarrier_self] at honly
    exact h.of_only honly (hx.cleared (.refl _) _ (by decide) nofun)
  | withdraw harrived => exact h.of_only (.of_barriers_eq rfl) (hx.withdraw harrived)
  | breakRound =>
    obtain ⟨honly, -⟩ := BrokenFrom.of_breakRound s b r.port
    exact h.of_only honly (hx.cleared (.refl _) _ (by split_ifs <;> decide) (by split_ifs with hnil <;> simp [hnil]))
  | breakIdle hmember hidle =>
    exact h.of_only (.of_setBarrier s b _)
      (hx.setState (by rw [hidle]; decide) (by decide) fun _ => List.ne_nil_of_mem hmember)
  | rearm hbroken => exact h.of_only (.of_setBarrier s b _) (hx.setState (by rw [hbroken]; decide) (by decide) nofun)

/-- R139: the visit removes the members of a port; a round it meets is broken. -/
theorem BarriersSound.visitBarrier {s : State} (h : BarriersSound s) (p : Port) (b : BarrierIndex) :
    BarriersSound (s.visitBarrier p b) := by
  have hx := h b
  have hsublist : ((s.barrier b).without p).members.Sublist (s.barrier b).members := List.filter_sublist
  rw [State.visitBarrier_eq]
  by_cases hnone : ∀ r ∈ (s.barrier b).members, r.port ≠ p
  · rw [if_pos hnone]
    exact h
  rw [if_neg hnone]
  by_cases hempty : (s.barrier b).arrived = []
  · rw [if_pos hempty]
    refine h.of_only (.of_setBarrier s b _) ?_
    have hlost := hx.lose hsublist (by simp [hempty]) (fun hne => absurd hempty hne)
    have harrived : ((s.barrier b).without p).arrived = (s.barrier b).arrived := by simp [Barrier.without, hempty]
    dsimp only
    rw [harrived]
    exact hlost
  · rw [if_neg hempty]
    obtain ⟨honly, -⟩ := BrokenFrom.of_setBarrier_breakRound
      (s.dropReservations p ((s.barrier b).arrived.filter fun r => r.port == p).length) b ((s.barrier b).without p) p
    exact h.of_only honly (hx.cleared hsublist _ (by split_ifs <;> decide) (by split_ifs with hnil <;> simp [hnil]))

theorem BarriersSound.reset : BarriersSound State.reset := by unfold BarriersSound Barrier.Sound; decide

theorem BarriersSound.blockStep {s t : State} (h : BarriersSound s) (hstep : BlockStep s t) : BarriersSound t := by
  cases hstep with
  | lock k p t hmove => rw [LockTableOnly.of_lockMove hmove]; exact h
  | barrier r b k t hlive hmove => exact h.barrierMove hmove
  | depart p c hlive => rw [DepartureOnly.depart s p c]; exact h
  | portReset p => rw [State.resetPort_frame]; exact h
  | interval p v => rw [State.writeKalive_frame]; exact h
  | cap p v => rw [State.writeWcap_frame]; exact h
  | renewKeepalive p => rw [State.renewKeepalive_eq]; exact h
  | lockVisit p i hengine => rw [QueuesOnly.of_lockSteps (.visitLock s p i)]; exact h
  | barrierVisit p b hengine => exact h.visitBarrier p b
  | finalStep p hengine => rw [State.nextSweep_frame]; exact h
  | deviceReset => exact BarriersSound.reset
  | _ => exact h

theorem BarriersSound.hostOnly {u t : State} (h : BarriersSound u) (hhost : HostOnly u t) : BarriersSound t := by
  rw [hhost]
  exact h

end Sys2Proof.Machine
end

section
/-! PROOFS. Every step keeps the conditions on the barriers. -/

open Sys2Proof Sys2Proof.Machine

/-- Settles O5: `BarriersSound.blockStep`; only the barrier unit's commands and the barrier visit write an entry. -/
theorem barriersAreKept : Obligations.BarriersAreKept := by
  intro s t hsound hstep
  exact kept_of_step (fun _ _ h => h) (fun _ _ hhost h => h.hostOnly hhost) (fun _ _ hblock h => h.blockStep hblock)
    hstep hsound
end

section
/-! PROOFS. What a departed port still has, in every step (R112, R135, R140): only ATTACHED ports get anything new. -/

namespace Sys2Proof.Machine

/-! ### The lock entry behind each step -/

theorem State.expireRecord_lock (s : State) (i : LockIndex) (w : WaiterRecord) :
    (s.expireRecord i w).lock i = { s.lock i with queue := (s.lock i).queue.erase w } := by
  rw [State.expireRecord, State.dropReservations_lock, State.deliverReserved_lock, State.freeRecord_lock, if_pos rfl]

theorem State.revoke_lock (s : State) (i : LockIndex) (r : Requester) (rest : List Deadline) :
    (s.revoke i r rest).lock i =
      { s.lock i with exclusiveHolder := none, mark := if s.attached r.port then .revoked else .abandoned } := by
  rw [State.revoke, State.deliverReserved_lock, State.setLock_lock_self]

theorem State.endHold_lock (s : State) (i : LockIndex) (r : Requester) (shared : List Requester) (mark : Mark) :
    (s.endHold i r shared mark).lock i =
      { s.lock i with exclusiveHolder := none, sharedHolders := shared, mark := mark } := by
  rw [State.endHold, State.endLease_lock, State.setLock_lock_self]

theorem State.grantHead_lock_self {s : State} {i : LockIndex} {w : WaiterRecord} {rest : List WaiterRecord}
    (hqueue : (s.lock i).queue = w :: rest) :
    (s.grantHead i w).lock i = ({ s.lock i with queue := rest } : LockEntry).grantTo w.requester w.mode := by
  rw [State.grantHead_lock, if_pos rfl, hqueue, List.erase_cons_head]

theorem mem_insertRequester (r q : Requester) (l : List Requester) : q ∈ insertRequester r l ↔ q ∈ l ∨ q = r := by
  unfold insertRequester
  by_cases hr : r ∈ l
  · rw [if_pos (List.contains_iff_mem.2 hr)]
    exact ⟨.inl, fun h => h.elim id fun hq => hq ▸ hr⟩
  · rw [if_neg (mt List.contains_iff_mem.1 hr)]
    simp

/-! ### Nothing new for a port -/

theorem LockEntry.clearOf.grantTo {e : LockEntry} {q : Port} (h : e.clearOf q) {r : Requester} (hr : r.port ≠ q) (m : Mode) :
    (e.grantTo r m).clearOf q := by
  obtain ⟨hqueue, hexclusive, hshared, hallocator⟩ := h
  cases m with
  | exclusive => exact ⟨hqueue, fun x hx => Option.mem_some_iff.1 hx ▸ hr, hshared, hallocator⟩
  | shared =>
    refine ⟨hqueue, hexclusive, fun x hx => ?_, hallocator⟩
    exact ((mem_insertRequester r x _).1 hx).elim (hshared x) fun hxr => hxr ▸ hr

/-- A lock without a port's records, holds or allocation gets none by a step at the lock. -/
theorem LockStep.clearOf {i : LockIndex} {s t : State} (h : LockStep i s t) {q : Port} (hclear : (s.lock i).clearOf q) :
    (t.lock i).clearOf q := by
  have hwhole := hclear
  obtain ⟨hqueue, hexclusive, hshared, hallocator⟩ := hclear
  have herase : ∀ w : WaiterRecord, ∀ x ∈ (s.lock i).queue.erase w, x.requester.port ≠ q :=
    fun w x hx => hqueue x (List.mem_of_mem_erase hx)
  cases h with
  | discard w => rw [State.discardRecord_lock, if_pos rfl]; exact ⟨herase w, hexclusive, hshared, hallocator⟩
  | grant w rest hhead =>
    rw [State.grantHead_lock, if_pos rfl]
    exact LockEntry.clearOf.grantTo (e := { s.lock i with queue := (s.lock i).queue.erase w })
      ⟨herase w, hexclusive, hshared, hallocator⟩ (hqueue w (hhead ▸ List.mem_cons_self)) _
  | expire w => rw [State.expireRecord_lock]; exact ⟨herase w, hexclusive, hshared, hallocator⟩
  | revoke r k rest => rw [State.revoke_lock]; exact ⟨hqueue, nofun, hshared, hallocator⟩
  | endHold r shared mark hholder hshared' =>
    rw [State.endHold_lock]
    refine ⟨hqueue, nofun, ?_, hallocator⟩
    obtain rfl | rfl := hshared'
    · exact hshared
    · intro x hx
      rw [List.mem_singleton] at hx
      exact hexclusive x (hx ▸ hholder)
  | narrow shared allocator hsub hallocator' =>
    rw [State.setLock_lock_self]
    refine ⟨hqueue, hexclusive, fun x hx => hshared x (hsub.subset hx), ?_⟩
    obtain rfl | rfl := hallocator'
    · exact hallocator
    · exact nofun

theorem LockSteps.clearOf {i : LockIndex} {s t : State} (h : LockSteps i s t) (j : LockIndex) {q : Port}
    (hclear : (s.lock j).clearOf q) : (t.lock j).clearOf q := by
  by_cases hj : j = i
  · subst hj
    exact h.keeps (P := fun u => (u.lock j).clearOf q) hclear fun _ _ hstep hu => hstep.clearOf hu
  · rw [h.lock_ne hj]
    exact hclear

/-- From `s` to `t`, no lock and no barrier has got anything of port `q`. -/
def StaysClear (q : Port) (s t : State) : Prop :=
  (∀ i : LockIndex, (s.lock i).clearOf q → (t.lock i).clearOf q) ∧
  ∀ b : BarrierIndex, (s.barrier b).clearOf q → (t.barrier b).clearOf q

theorem StaysClear.of_lock {q : Port} {s t : State} {i : LockIndex} {x : LockEntry} (honly : OnlyLock i x s t)
    (hbarriers : t.barriers = s.barriers) (hx : (s.lock i).clearOf q → x.clearOf q) : StaysClear q s t := by
  refine ⟨fun j hclear => ?_, fun b hclear => ?_⟩
  · by_cases hj : j = i
    · subst hj
      rw [honly.1]
      exact hx hclear
    · rw [honly.2 j hj]
      exact hclear
  · simpa only [State.barrier, hbarriers] using hclear

theorem StaysClear.of_barrier {q : Port} {s t : State} {b : BarrierIndex} {x : Barrier} (honly : OnlyBarrier b x s t)
    (hlocks : t.locks = s.locks) (hx : (s.barrier b).clearOf q → x.clearOf q) : StaysClear q s t := by
  refine ⟨fun i hclear => ?_, fun c hclear => ?_⟩
  · simpa only [State.lock, hlocks] using hclear
  · by_cases hc : c = b
    · subst hc
      rw [honly.1]
      exact hx hclear
    · rw [honly.2 c hc]
      exact hclear

theorem StaysClear.of_eq {q : Port} {s t : State} (hlocks : t.locks = s.locks) (hbarriers : t.barriers = s.barriers) :
    StaysClear q s t :=
  ⟨fun i hclear => by simpa only [State.lock, hlocks] using hclear,
    fun b hclear => by simpa only [State.barrier, hbarriers] using hclear⟩

theorem StaysClear.of_lockSteps {i : LockIndex} {s t : State} (h : LockSteps i s t) (q : Port) : StaysClear q s t :=
  ⟨fun j hclear => h.clearOf j hclear, fun b hclear => (QueuesOnly.of_lockSteps h).barrier b ▸ hclear⟩

theorem State.port_ne_of_attached {s : State} {p q : Port} (hlive : s.attached p = true) (hq : s.attached q = false) :
    p ≠ q := by
  rintro rfl
  rw [hlive] at hq
  exact absurd hq (by decide)

theorem StaysClear.of_lockMove {s t : State} {p : Port} {k : Command} (h : LockMove s p k t) {q : Port}
    (hq : s.attached q = false) :
    StaysClear q s t := by
  cases h with
  | allocate i k lease rest hlive =>
    refine .of_lock (.of_locks_eq rfl) rfl fun ⟨hqueue, hexclusive, hshared, _⟩ => ⟨hqueue, hexclusive, hshared, ?_⟩
    exact fun heq => State.port_ne_of_attached hlive hq (Option.some.inj heq)
  | retire i =>
    exact .of_lock (.of_locks_eq rfl) rfl fun ⟨hqueue, hexclusive, hshared, _⟩ => ⟨hqueue, hexclusive, hshared, nofun⟩
  | define a => exact .of_lock (.of_locks_eq rfl) rfl id
  | grant r h m hlive =>
    exact .of_lock (.of_locks_eq rfl) rfl fun hclear => hclear.grantTo (State.port_ne_of_attached hlive hq) m
  | grantLease r h m hlive =>
    exact .of_lock (.of_locks_eq rfl) rfl fun hclear => hclear.grantTo (State.port_ne_of_attached hlive hq) m
  | wait r h m limit hport hlive =>
    refine .of_lock (.of_locks_eq rfl) rfl fun ⟨hqueue, hexclusive, hshared, hallocator⟩ =>
      ⟨fun w hw => ?_, hexclusive, hshared, hallocator⟩
    obtain hw | hw := List.mem_append.1 hw
    · exact hqueue w hw
    · rw [List.mem_singleton.1 hw]
      exact State.port_ne_of_attached hlive hq
  | renew => exact .of_eq rfl rfl
  | evaluated k i u hsteps => exact .of_lockSteps hsteps.evaluate q

theorem Barrier.clearOf.of_subset {x y : Barrier} {q : Port} (h : x.clearOf q) (hmembers : ∀ r ∈ y.members, r ∈ x.members)
    (harrived : ∀ r ∈ y.arrived, r ∈ x.arrived) : y.clearOf q :=
  ⟨fun r hr => h.1 r (hmembers r hr), fun r hr => h.2 r (harrived r hr)⟩

theorem StaysClear.of_barrierMove {s t : State} {r : Requester} {b : BarrierIndex} {k : Command} (h : BarrierMove s r b k t)
    (hlive : s.attached r.port = true) {q : Port} (hq : s.attached q = false) : StaysClear q s t := by
  have hr := State.port_ne_of_attached hlive hq
  have hadd : ∀ l : List Requester, (∀ x ∈ l, x.port ≠ q) → ∀ x ∈ l ++ [r], x.port ≠ q := fun l hl x hx =>
    (List.mem_append.1 hx).elim (hl x) fun hxr => List.mem_singleton.1 hxr ▸ hr
  cases h with
  | join => exact .of_barrier (.of_setBarrier s b _) rfl fun ⟨hmembers, harrived⟩ => ⟨hadd _ hmembers, harrived⟩
  | leave =>
    exact .of_barrier (.of_setBarrier s b _) rfl fun hclear =>
      hclear.of_subset (fun x hx => List.mem_of_mem_erase hx) fun x hx => hx
  | leaveOpens =>
    obtain ⟨honly, -⟩ := OpenedFrom.of_openBarrier s b { s.barrier b with members := (s.barrier b).members.erase r }
    exact .of_barrier honly (by simp) fun hclear => hclear.of_subset (fun x hx => List.mem_of_mem_erase hx) nofun
  | arrive => exact .of_barrier (.of_barriers_eq rfl) rfl fun ⟨hmembers, harrived⟩ => ⟨hmembers, hadd _ harrived⟩
  | arriveOpens =>
    obtain ⟨honly, -⟩ := OpenedFrom.of_openBarrier s b (s.barrier b)
    rw [State.setBarrier_self] at honly
    exact .of_barrier honly (by simp) fun hclear => hclear.of_subset (fun x hx => hx) nofun
  | withdraw =>
    exact .of_barrier (.of_barriers_eq rfl) rfl fun hclear =>
      hclear.of_subset (fun x hx => hx) fun x hx => List.mem_of_mem_erase hx
  | breakRound =>
    obtain ⟨honly, -⟩ := BrokenFrom.of_breakRound s b r.port
    exact .of_barrier honly (by simp) fun hclear => hclear.of_subset (fun x hx => hx) nofun
  | breakIdle => exact .of_barrier (.of_setBarrier s b _) rfl id
  | rearm => exact .of_barrier (.of_setBarrier s b _) rfl id

/-! ### The visits clear the swept port (R135) -/

theorem State.clearLock_clearOf (s : State) (p : Port) (i : LockIndex) : ((s.clearLock p i).lock i).clearOf p := by
  rw [State.clearLock_lock_self]
  refine LockEntry.sweptOf_clear _ p fun w hw => ?_
  simpa using (List.mem_filter.1 hw).2

theorem State.visitLock_clearOf (s : State) (p : Port) (i : LockIndex) : ((s.visitLock p i).lock i).clearOf p := by
  rw [State.visitLock_eq]
  split_ifs
  · exact (LockSteps.refl i _).evaluate.clearOf i (s.clearLock_clearOf p i)
  · exact s.clearLock_clearOf p i

/-- The entry the barrier visit leaves has no more members and arrivals than before, and none of the swept port. -/
theorem State.visitBarrier_barrier {s : State} {b : BarrierIndex} (h : (s.barrier b).Sound) (p : Port) :
    ∃ x, OnlyBarrier b x s (s.visitBarrier p b) ∧ x.clearOf p ∧
      (∀ r ∈ x.members, r ∈ (s.barrier b).members) ∧ ∀ r ∈ x.arrived, r ∈ (s.barrier b).arrived := by
  obtain ⟨-, -, -, hsubset, -⟩ := h
  have hmember : ∀ l : List Requester, ∀ r ∈ l.filter (fun r => r.port != p), r ∈ l ∧ r.port ≠ p := fun l r hr => by
    simpa using hr
  rw [State.visitBarrier_eq]
  by_cases hnone : ∀ r ∈ (s.barrier b).members, r.port ≠ p
  · rw [if_pos hnone]
    exact ⟨s.barrier b, ⟨rfl, fun _ _ => rfl⟩, ⟨hnone, fun r hr => hnone r (hsubset r hr)⟩, fun _ => id, fun _ => id⟩
  rw [if_neg hnone]
  by_cases hempty : (s.barrier b).arrived = []
  · rw [if_pos hempty]
    exact ⟨_, .of_setBarrier s b _, ⟨fun r hr => (hmember _ r hr).2, fun r hr => (hmember _ r hr).2⟩,
      fun r hr => (hmember _ r hr).1, fun r hr => (hmember _ r hr).1⟩
  · rw [if_neg hempty]
    obtain ⟨honly, -⟩ := BrokenFrom.of_setBarrier_breakRound
      (s.dropReservations p ((s.barrier b).arrived.filter fun r => r.port == p).length) b ((s.barrier b).without p) p
    exact ⟨_, honly, ⟨fun r hr => (hmember _ r hr).2, nofun⟩, fun r hr => (hmember _ r hr).1, nofun⟩

/-! ### Every block -/

theorem SweptClear.of_staysClear {s t : State} (h : SweptClear s) (hsweep : SweepQueueSound s)
    (hstays : ∀ q, s.attached q = false → StaysClear q s t)
    (hdetached : ∀ q, (t.session q).state = .detached → (s.session q).state = .detached) (hengine : t.engine = s.engine) :
    SweptClear t := by
  obtain ⟨hgone, hswept⟩ := h
  refine ⟨fun q hq => ?_, fun q pos hbusy => ?_⟩
  · have hstate := hdetached q hq
    obtain ⟨hlocks, hbarriers⟩ := hstays q (by simp [State.attached, hstate])
    exact ⟨fun i => hlocks i ((hgone q hstate).1 i), fun b => hbarriers b ((hgone q hstate).2 b)⟩
  · rw [hengine] at hbusy
    obtain ⟨hlocks, hbarriers⟩ := hstays q (hsweep.swept_not_attached hbusy)
    obtain ⟨hpastLock, hpastBarrier⟩ := hswept q pos hbusy
    exact ⟨fun i hi => hlocks i (hpastLock i hi), fun b hb => hbarriers b (hpastBarrier b hb)⟩

theorem SweptClear.startSession {s : State} (h : SweptClear s) (hsweep : SweepQueueSound s) (p : Port) :
    SweptClear (s.startSession p) := by
  refine h.of_staysClear hsweep (fun q _ => .of_eq rfl rfl) (fun q hq => ?_) rfl
  rw [State.startSession_session] at hq
  by_cases hqp : q = p
  · rw [if_pos hqp] at hq
    exact absurd hq nofun
  · rwa [if_neg hqp] at hq

theorem SweptClear.depart {s : State} (h : SweptClear s) {p : Port} (c : Cause) : SweptClear (s.depart p c) := by
  obtain ⟨hgone, hswept⟩ := h
  have hengine := congrArg Prod.fst (s.depart_engine p c)
  have hlock : ∀ i, (s.depart p c).lock i = s.lock i := s.depart_lock p c
  have hbarrier : ∀ b, (s.depart p c).barrier b = s.barrier b := s.depart_barrier p c
  simp only [SweptClear, hlock, hbarrier]
  refine ⟨fun q hq => ?_, fun q pos hbusy => ?_⟩
  · rw [State.depart_session] at hq
    by_cases hqp : q = p
    · rw [if_pos hqp] at hq
      exact absurd hq (by dsimp only; split_ifs <;> decide)
    · rw [if_neg hqp] at hq
      exact hgone q hq
  · by_cases hidle : s.engine = .idle
    · rw [if_pos hidle] at hengine
      rw [show (s.depart p c).engine = .busy p (.locks 0) from hengine] at hbusy
      cases hbusy
      exact ⟨fun i hi => absurd hi (Nat.not_lt_zero _), fun b hb => hb.elim⟩
    · rw [if_neg hidle] at hengine
      exact hswept q pos (hengine.symm.trans hbusy)

theorem SweptClear.resetWindow {s : State} (h : SweptClear s) (hsweep : SweepQueueSound s) (p : Port) :
    SweptClear (s.resetWindow p) := by
  refine h.of_staysClear hsweep (fun q _ => .of_eq rfl rfl) (fun q hq => ?_) rfl
  rw [State.resetWindow_session] at hq
  split_ifs at hq with hqp
  · exact hqp ▸ hq
  · exact hq

theorem SweptClear.resetPort {s : State} (h : SweptClear s) (hsweep : SweepQueueSound s) (p : Port) :
    SweptClear (s.resetPort p) := by
  cases hlive : s.attached p with
  | true =>
    rw [State.resetPort_of_attached hlive]
    exact (h.depart .portReset).resetWindow (hsweep.depart hlive .portReset) p
  | false =>
    rw [State.resetPort_of_not_attached hlive]
    exact h.resetWindow hsweep p

theorem Position.next_locks (i : LockIndex) :
    (Position.locks i).next = if h : i.val + 1 < 64 then .locks ⟨i.val + 1, h⟩ else .barriers 0 := rfl

theorem Position.next_barriers (b : BarrierIndex) :
    (Position.barriers b).next = if h : b.val + 1 < 8 then .barriers ⟨b.val + 1, h⟩ else .final := rfl

theorem Position.pastLock_next {i j : LockIndex} (h : (Position.locks i).next.pastLock j) : j.val < i.val ∨ j = i := by
  rw [Position.next_locks] at h
  rw [Fin.ext_iff]
  split_ifs at h
  · have hlt : j.val < i.val + 1 := h
    omega
  · have := j.isLt
    omega

theorem Position.not_pastBarrier_next {i : LockIndex} (b : BarrierIndex) : ¬ (Position.locks i).next.pastBarrier b := by
  rw [Position.next_locks]
  split_ifs
  · exact id
  · exact Nat.not_lt_zero _

theorem Position.pastBarrier_next {b c : BarrierIndex} (h : (Position.barriers b).next.pastBarrier c) :
    c.val < b.val ∨ c = b := by
  rw [Position.next_barriers] at h
  rw [Fin.ext_iff]
  split_ifs at h
  · have hlt : c.val < b.val + 1 := h
    omega
  · have := c.isLt
    omega

theorem SweptClear.lockVisit {s : State} (h : SweptClear s) {p : Port} {i : LockIndex}
    (hengine : s.engine = .busy p (.locks i)) :
    SweptClear { s.visitLock p i with engine := .busy p (Position.locks i).next } := by
  obtain ⟨hgone, hswept⟩ := h
  have hsteps := LockSteps.visitLock s p i
  have hbarrier : ∀ b, (s.visitLock p i).barrier b = s.barrier b := s.visitLock_barrier p i
  refine ⟨fun q hq => ?_, fun q pos hbusy => ?_⟩
  · have hstate : (s.session q).state = .detached := (congrArg Session.state (s.visitLock_session p i q)).symm.trans hq
    exact ⟨fun j => hsteps.clearOf j ((hgone q hstate).1 j), fun b => hbarrier b ▸ (hgone q hstate).2 b⟩
  · cases hbusy
    refine ⟨fun j hj => ?_, fun b hb => absurd hb (Position.not_pastBarrier_next b)⟩
    obtain hj | rfl := Position.pastLock_next hj
    · exact hsteps.clearOf j ((hswept p _ hengine).1 j hj)
    · exact s.visitLock_clearOf p j

theorem SweptClear.barrierVisit {s : State} (h : SweptClear s) (hbarriers : BarriersSound s) {p : Port} {b : BarrierIndex}
    (hengine : s.engine = .busy p (.barriers b)) :
    SweptClear { s.visitBarrier p b with engine := .busy p (Position.barriers b).next } := by
  obtain ⟨hgone, hswept⟩ := h
  have hlock : ∀ i, (s.visitBarrier p b).lock i = s.lock i := s.visitBarrier_lock p b
  obtain ⟨x, honly, hclear, hmembers, harrived⟩ := State.visitBarrier_barrier (hbarriers b) p
  have hstays : ∀ q c, (s.barrier c).clearOf q → ((s.visitBarrier p b).barrier c).clearOf q := by
    intro q c hc
    by_cases hcb : c = b
    · subst hcb
      rw [honly.1]
      exact hc.of_subset hmembers harrived
    · rw [honly.2 c hcb]
      exact hc
  refine ⟨fun q hq => ?_, fun q pos hbusy => ?_⟩
  · have hstate : (s.session q).state = .detached := (congrArg Session.state (s.visitBarrier_session p b q)).symm.trans hq
    exact ⟨fun j => hlock j ▸ (hgone q hstate).1 j, fun c => hstays q c ((hgone q hstate).2 c)⟩
  · cases hbusy
    obtain ⟨hlocks, hpast⟩ := hswept p _ hengine
    refine ⟨fun j _ => hlock j ▸ hlocks j trivial, fun c hc => ?_⟩
    obtain hc | rfl := Position.pastBarrier_next hc
    · exact hstays p c (hpast c hc)
    · exact honly.1 ▸ hclear

/-- R140: at the position FINAL the swept port has nothing left anywhere; the next sweep has visited nothing. -/
theorem SweptClear.finalStep {s : State} (h : SweptClear s) {p : Port} (hengine : s.engine = .busy p .final) :
    SweptClear (s.reportSweepEnd p).nextSweep := by
  obtain ⟨hgone, hswept⟩ := h
  have hframe := (s.reportSweepEnd p).nextSweep_frame
  have hlock : ∀ i, (s.reportSweepEnd p).nextSweep.lock i = s.lock i := fun i => by rw [hframe]; rfl
  have hbarrier : ∀ b, (s.reportSweepEnd p).nextSweep.barrier b = s.barrier b := fun b => by rw [hframe]; rfl
  simp only [SweptClear, hlock, hbarrier]
  refine ⟨fun q hq => ?_, fun q pos hbusy => ?_⟩
  · by_cases hqp : q = p
    · subst hqp
      obtain ⟨hlocks, hbarriers⟩ := hswept q _ hengine
      exact ⟨fun i => hlocks i trivial, fun b => hbarriers b trivial⟩
    · rw [State.nextSweep_session, State.reportSweepEnd_session] at hq
      split_ifs at hq
      rw [Session.afterSweepOf_state, if_neg hqp] at hq
      exact hgone q hq
  · cases hqueue : s.departureQueue with
    | nil =>
      rw [State.nextSweep_of_empty (s := s.reportSweepEnd p) hqueue] at hbusy
      exact absurd hbusy nofun
    | cons n rest =>
      rw [State.nextSweep_of_head (s := s.reportSweepEnd p) hqueue] at hbusy
      cases hbusy
      exact ⟨fun i hi => absurd hi (Nat.not_lt_zero _), fun b hb => hb.elim⟩

theorem State.reset_lock (i : LockIndex) :
    State.reset.lock i = .atReset (if i.val < Config.fixedLocks then .allocated else .free) := by
  simp only [State.lock, State.reset, Fin.getElem_fin, Vector.getElem_ofFn]

theorem State.reset_barrier (b : BarrierIndex) : State.reset.barrier b = ⟨.idle, 0, [], []⟩ := by
  simp only [State.barrier, State.reset, Fin.getElem_fin, Vector.getElem_replicate]

theorem SweptClear.reset : SweptClear State.reset := by
  refine ⟨fun q _ => ⟨fun i => ?_, fun b => ?_⟩, nofun⟩
  · rw [State.reset_lock]
    exact ⟨nofun, nofun, nofun, nofun⟩
  · rw [State.reset_barrier]
    exact ⟨nofun, nofun⟩

theorem SweptClear.blockStep {s t : State} (h : SweptClear s) (hsweep : SweepQueueSound s) (hbarriers : BarriersSound s)
    (hstep : BlockStep s t) : SweptClear t := by
  cases hstep with
  | lock k p t hmove =>
    have hframe := LockTableOnly.of_lockMove hmove
    exact h.of_staysClear hsweep (fun q hq => .of_lockMove hmove hq) (fun q hq => by rw [hframe] at hq; exact hq)
      (by rw [hframe])
  | barrier r b k t hlive hmove =>
    have hframe := BarriersOnly.of_barrierMove hmove
    exact h.of_staysClear hsweep (fun q hq => .of_barrierMove hmove hlive hq) (fun q hq => by rw [hframe] at hq; exact hq)
      (by rw [hframe])
  | attach p => exact h.startSession hsweep p
  | depart p c => exact h.depart c
  | portReset p => exact h.resetPort hsweep p
  | summary p v =>
    refine h.of_staysClear hsweep (fun q _ => .of_eq rfl rfl) (fun q hq => ?_) rfl
    rw [State.writeDsum_session] at hq
    split_ifs at hq with hqp
    · exact hqp ▸ hq
    · exact hq
  | interval p v =>
    have hframe := s.writeKalive_frame p v
    refine h.of_staysClear hsweep (fun q _ => .of_eq (by rw [hframe]) (by rw [hframe])) (fun q hq => ?_) (by rw [hframe])
    rw [State.writeKalive_session] at hq
    split_ifs at hq with hqp
    · exact hqp ▸ hq
    · exact hq
  | cap p v => rw [State.writeWcap_frame]; exact h
  | renewKeepalive p => rw [State.renewKeepalive_eq]; exact h
  | lockVisit p i hengine => exact h.lockVisit hengine
  | barrierVisit p b hengine => exact h.barrierVisit hbarriers hengine
  | finalStep p hengine => exact h.finalStep hengine
  | deviceReset => exact SweptClear.reset
  | _ => exact h

theorem SweptClear.hostOnly {u t : State} (h : SweptClear u) (hhost : HostOnly u t) : SweptClear t := by
  rw [hhost]
  exact h

end Sys2Proof.Machine
end

section
/-! PROOFS. Every step keeps a departed port clear where the sweep has been. -/

open Sys2Proof Sys2Proof.Machine

/-- Settles O9: `SweptClear.blockStep`; what is new at a lock or a barrier is an ATTACHED port's, and a visit clears. -/
theorem sweptPortsStayClear : Obligations.SweptPortsStayClear := by
  intro s t hclear hsweep hbarriers hstep
  obtain ⟨rest, u, hblock, hhost⟩ := BlockStep.of_step hstep
  exact (SweptClear.blockStep (s := { s with pending := rest }) hclear hsweep hbarriers hblock).hostOnly hhost
end

section
/-! PROOFS. Inboxes, summaries and caps in every step (R23, R88, R129). -/

namespace Sys2Proof.Machine

/-! ### Entries of an inbox -/

@[simp] theorem State.dropReservations_entries (s : State) (p q : Port) (n : Nat) :
    ((s.dropReservations p n).inbox q).entries = (s.inbox q).entries := by
  rw [State.dropReservations, State.setInbox_inbox]
  split_ifs with hq <;> simp [hq]

@[simp] theorem State.reserve_entries (s : State) (p q : Port) (n : Nat) :
    ((s.reserve p n).inbox q).entries = (s.inbox q).entries := by
  rw [State.reserve, State.setInbox_inbox]
  split_ifs with hq <;> simp [hq]

/-- R81: nothing is delivered to a port that is not ATTACHED. -/
theorem State.deliverReserved_entries {s : State} {q : Port} (hq : s.attached q = false) (p : Port) (e : InboxEntry) :
    ((s.deliverReserved p e).inbox q).entries = (s.inbox q).entries := by
  by_cases hqp : q = p
  · subst hqp
    simp [State.deliverReserved_inbox_self, hq]
  · rw [State.deliverReserved_inbox_ne s p e hqp]

theorem State.endLease_entries (s : State) (i : LockIndex) (p q : Port) :
    ((s.endLease i p).inbox q).entries = (s.inbox q).entries := by
  unfold State.endLease
  split_ifs
  · rfl
  · rw [State.dropReservations_entries]
    rfl

theorem State.grantHead_entries {s : State} {q : Port} (hq : s.attached q = false) (i : LockIndex) (w : WaiterRecord) :
    ((s.grantHead i w).inbox q).entries = (s.inbox q).entries := by
  have hgranted : ((s.grantedHead i w).inbox q).entries = (s.inbox q).entries := by
    rw [State.grantedHead, State.deliverReserved_entries (by simpa using hq), State.setLock_inbox, State.freeRecord_inbox]
  by_cases hlease : (s.lock i).Leases w.mode
  · rw [State.grantHead_of_leases hlease, State.startLease_inbox, hgranted]
  · rw [State.grantHead_of_not_leases hlease, State.dropReservations_entries, hgranted]

theorem LockStep.entries {i : LockIndex} {s t : State} (h : LockStep i s t) {q : Port} (hq : s.attached q = false) :
    (t.inbox q).entries = (s.inbox q).entries := by
  cases h with
  | discard w => rw [State.discardRecord, State.dropReservations_entries, State.freeRecord_inbox]
  | grant w => exact State.grantHead_entries hq i w
  | expire w =>
    rw [State.expireRecord, State.dropReservations_entries, State.deliverReserved_entries (by simpa using hq),
      State.freeRecord_inbox]
  | revoke r k rest =>
    refine (State.deliverReserved_entries ?_ _ _).trans rfl
    exact hq
  | endHold => rw [State.endHold, State.endLease_entries, State.setLock_inbox]
  | narrow => rfl

theorem LockSteps.entries {i : LockIndex} {s t : State} (h : LockSteps i s t) {q : Port} (hq : s.attached q = false) :
    (t.inbox q).entries = (s.inbox q).entries := by
  have hboth : t.attached q = false ∧ (t.inbox q).entries = (s.inbox q).entries :=
    h.keeps (P := fun u => u.attached q = false ∧ (u.inbox q).entries = (s.inbox q).entries) ⟨hq, rfl⟩
      fun _ _ hstep ⟨hu, hentries⟩ =>
        ⟨((QueuesOnly.of_lockStep hstep).attached q).trans hu, (hstep.entries hu).trans hentries⟩
  exact hboth.2

theorem LockMove.entries {s t : State} {p : Port} {k : Command} (h : LockMove s p k t) {q : Port}
    (hq : s.attached q = false) :
    (t.inbox q).entries = (s.inbox q).entries := by
  cases h with
  | grantLease r h m => exact s.reserve_entries r.port q 1
  | wait r h m limit => exact State.reserve_entries (s.enqueue _) r.port q _
  | evaluated k i u hsteps => exact hsteps.evaluate.entries hq
  | _ => rfl

theorem DeliveredTo.entries {body : EntryBody} {rs : List Requester} {s t : State} (h : DeliveredTo body rs s t) {q : Port}
    (hq : s.attached q = false) : (t.inbox q).entries = (s.inbox q).entries := by
  rw [h q, hq]
  simp

theorem BarrierMove.entries {s t : State} {r : Requester} {b : BarrierIndex} {k : Command}
    (h : BarrierMove s r b k t) {q : Port}
    (hq : s.attached q = false) : (t.inbox q).entries = (s.inbox q).entries := by
  cases h with
  | leaveOpens => exact (OpenedFrom.of_openBarrier s b _).2.entries hq
  | arrive => exact State.reserve_entries (s.setBarrier b _) r.port q 1
  | arriveOpens =>
    have hopened := OpenedFrom.of_openBarrier s b (s.barrier b)
    rw [State.setBarrier_self] at hopened
    exact hopened.2.entries hq
  | withdraw => exact State.dropReservations_entries (s.setBarrier b _) r.port q 1
  | breakRound => exact (BrokenFrom.of_breakRound s b r.port).2.entries hq
  | _ => rfl

theorem State.visitBarrier_entries {s : State} {q : Port} (hq : s.attached q = false) (p : Port) (b : BarrierIndex) :
    ((s.visitBarrier p b).inbox q).entries = (s.inbox q).entries := by
  rw [State.visitBarrier_eq]
  by_cases hnone : ∀ r ∈ (s.barrier b).members, r.port ≠ p
  · rw [if_pos hnone]
  rw [if_neg hnone]
  by_cases hempty : (s.barrier b).arrived = []
  · rw [if_pos hempty]
    rfl
  · rw [if_neg hempty]
    let n := ((s.barrier b).arrived.filter fun r => r.port == p).length
    have hbroken := BrokenFrom.of_setBarrier_breakRound (s.dropReservations p n) b ((s.barrier b).without p) p
    exact (hbroken.2.entries (by simpa using hq)).trans (s.dropReservations_entries p q n)

/-! ### The pool's caps -/

theorem State.freeRecord_pool (s : State) (i : LockIndex) (w : WaiterRecord) (q : Port) :
    (s.freeRecord i w).pool q =
      if q = w.requester.port then { s.pool q with count := (s.pool q).count - 1 } else s.pool q := by
  refine (State.setPool_pool _ w.requester.port _ q).trans ?_
  split_ifs with hq
  · rw [hq]
  · rfl

theorem State.grantHead_pool (s : State) (i : LockIndex) (w : WaiterRecord) (q : Port) :
    (s.grantHead i w).pool q = (s.freeRecord i w).pool q := by
  unfold State.grantHead
  dsimp only
  split_ifs <;> simp

theorem State.expireRecord_pool (s : State) (i : LockIndex) (w : WaiterRecord) (q : Port) :
    (s.expireRecord i w).pool q = (s.freeRecord i w).pool q := by
  simp [State.expireRecord]

theorem State.discardRecord_pool (s : State) (i : LockIndex) (w : WaiterRecord) (q : Port) :
    (s.discardRecord i w).pool q = (s.freeRecord i w).pool q := by
  simp [State.discardRecord]

/-- A step at a lock changes a port's count at most: not its cap, not its ticket counter. -/
theorem LockStep.pool {i : LockIndex} {s t : State} (h : LockStep i s t) (q : Port) :
    (t.pool q).cap = (s.pool q).cap ∧ (t.pool q).nextTicket = (s.pool q).nextTicket := by
  have hfreed : ∀ w, ((s.freeRecord i w).pool q).cap = (s.pool q).cap ∧
      ((s.freeRecord i w).pool q).nextTicket = (s.pool q).nextTicket := fun w => by
    rw [State.freeRecord_pool]
    split_ifs <;> exact ⟨rfl, rfl⟩
  cases h with
  | discard w => rw [State.discardRecord_pool]; exact hfreed w
  | grant w => rw [State.grantHead_pool]; exact hfreed w
  | expire w => rw [State.expireRecord_pool]; exact hfreed w
  | revoke => simp only [State.revoke, State.deliverReserved_pool, State.setLock_pool]; exact ⟨rfl, rfl⟩
  | endHold => simp only [State.endHold, State.endLease_pool, State.setLock_pool, and_self]
  | narrow => exact ⟨rfl, rfl⟩

theorem LockSteps.pool {i : LockIndex} {s t : State} (h : LockSteps i s t) (q : Port) :
    (t.pool q).cap = (s.pool q).cap ∧ (t.pool q).nextTicket = (s.pool q).nextTicket :=
  h.keeps (P := fun u => (u.pool q).cap = (s.pool q).cap ∧ (u.pool q).nextTicket = (s.pool q).nextTicket) ⟨rfl, rfl⟩
    fun _ _ hstep ⟨hcap, hticket⟩ => ⟨(hstep.pool q).1.trans hcap, (hstep.pool q).2.trans hticket⟩

theorem State.withWaiter_pool (s : State) (w : WaiterRecord) (limit : Word) (q : Port) :
    (s.withWaiter w limit).pool q =
      if q = w.requester.port then
        { s.pool q with count := (s.pool q).count + 1, nextTicket := w.ticket + 1 }
      else s.pool q := by
  refine (State.setPool_pool _ w.requester.port _ q).trans ?_
  split_ifs with hq
  · rw [hq]
  · rfl

theorem LockMove.cap {s t : State} {p : Port} {k : Command} (h : LockMove s p k t) (q : Port) :
    (t.pool q).cap = (s.pool q).cap := by
  cases h with
  | wait r h m limit =>
    rw [State.withWaiter_pool]
    split_ifs <;> rfl
  | evaluated k i u hsteps => exact (hsteps.evaluate.pool q).1
  | _ => rfl

/-! ### Every block -/

/-- Where the session records keep what is read, and inboxes of departed ports and caps are as they were. -/
theorem PortsSound.of_eq {s t : State} (h : PortsSound s)
    (hsession : ∀ q, t.attached q = s.attached q ∧ (t.session q).summary = (s.session q).summary)
    (hentries : ∀ q, s.attached q = false → (t.inbox q).entries = (s.inbox q).entries)
    (hcap : ∀ q, (t.pool q).cap = (s.pool q).cap) : PortsSound t := by
  intro q
  obtain ⟨hempty, hsummary, hbound⟩ := h q
  obtain ⟨hattached, hsame⟩ := hsession q
  rw [hattached, hsame, hcap]
  exact ⟨fun hq => (hentries q hq).trans (hempty hq), hsummary, hbound⟩

theorem State.attached_eq (s : State) (p : Port) : s.attached p = ((s.session p).state == .attached) := rfl

theorem PortsSound.startSession {s : State} (h : PortsSound s) (p : Port) : PortsSound (s.startSession p) := by
  intro q
  obtain ⟨hempty, hsummary, hbound⟩ := h q
  have hcap : ((s.startSession p).pool q).cap = (s.pool q).cap := by
    refine (congrArg PoolPort.cap (State.setPool_pool _ p _ q)).trans ?_
    split_ifs with hq
    · rw [hq]
    · rfl
  rw [hcap, State.attached_eq, State.startSession_session]
  by_cases hq : q = p
  · subst hq
    exact ⟨fun hnot => absurd hnot (by simp), by simpa using hsummary, hbound⟩
  · rw [if_neg hq]
    exact ⟨hempty, hsummary, hbound⟩

theorem PortsSound.depart {s : State} (h : PortsSound s) (p : Port) (c : Cause) : PortsSound (s.depart p c) := by
  intro q
  obtain ⟨hempty, hsummary, hbound⟩ := h q
  rw [State.depart_pool, State.depart_inbox, State.attached_eq, State.depart_session]
  by_cases hq : q = p
  · subst hq
    exact ⟨fun _ => by simp, by simpa using hsummary, hbound⟩
  · rw [if_neg hq, if_neg hq]
    exact ⟨hempty, hsummary, hbound⟩

theorem State.resetWindow_pool (s : State) (p q : Port) :
    (s.resetWindow p).pool q = if q = p then { s.pool p with cap := Config.resetCap } else s.pool q :=
  State.setPool_pool _ p _ q

theorem PortsSound.resetWindow {s : State} (h : PortsSound s) (p : Port) : PortsSound (s.resetWindow p) := by
  intro q
  obtain ⟨hempty, hsummary, hbound⟩ := h q
  rw [State.resetWindow_pool, State.attached_eq, State.resetWindow_session]
  by_cases hq : q = p
  · subst hq
    rw [if_pos rfl, if_pos rfl]
    exact ⟨hempty, by simp, by simp [Config.resetCap, Config.waiterRecords]⟩
  · rw [if_neg hq, if_neg hq]
    exact ⟨hempty, hsummary, hbound⟩

theorem PortsSound.resetPort {s : State} (h : PortsSound s) (p : Port) : PortsSound (s.resetPort p) := by
  cases hlive : s.attached p with
  | true => rw [State.resetPort_of_attached hlive]; exact (h.depart p .portReset).resetWindow p
  | false => rw [State.resetPort_of_not_attached hlive]; exact h.resetWindow p

theorem PortsSound.writeDsum {s : State} (h : PortsSound s) (p : Port) (v : Word) : PortsSound (s.writeDsum p v) := by
  intro q
  obtain ⟨hempty, hsummary, hbound⟩ := h q
  rw [State.attached_eq, State.writeDsum_session]
  by_cases hq : q = p
  · subst hq
    rw [if_pos rfl]
    exact ⟨hempty, by rw [BitVec.getLsbD_and, hsummary, Bool.false_and], hbound⟩
  · rw [if_neg hq]
    exact ⟨hempty, hsummary, hbound⟩

theorem State.writeWcap_pool (s : State) (p q : Port) (v : Word) (h : v.toNat ≤ Config.waiterRecords) :
    (s.writeWcap p v).pool q = if q = p then { s.pool p with cap := v.toNat } else s.pool q := by
  rw [State.writeWcap, if_pos h]
  exact s.setPool_pool p _ q

theorem PortsSound.writeWcap {s : State} (h : PortsSound s) (p : Port) (v : Word) : PortsSound (s.writeWcap p v) := by
  by_cases hv : v.toNat ≤ Config.waiterRecords
  · intro q
    obtain ⟨hempty, hsummary, hbound⟩ := h q
    rw [State.writeWcap_pool s p q v hv, State.writeWcap_frame]
    refine ⟨hempty, hsummary, ?_⟩
    split_ifs
    · exact hv
    · exact hbound
  · rw [State.writeWcap, if_neg hv]
    exact h

theorem PortsSound.popInbox {s : State} (h : PortsSound s) (p : Port) : PortsSound (s.popInbox p) := by
  intro q
  obtain ⟨hempty, hsummary, hbound⟩ := h q
  refine ⟨fun hq => ?_, hsummary, hbound⟩
  rw [State.popInbox, State.setInbox_inbox]
  split_ifs with hqp
  · subst hqp
    simp [hempty hq]
  · exact hempty hq

/-- R129, R140: the report of a sweep's end puts the port into the summaries of others. -/
theorem Session.afterSweepOf_summary {r : Session} {p q : Port} (h : r.summary.getLsbD q.val = false) :
    (r.afterSweepOf p q).summary.getLsbD q.val = false := by
  unfold Session.afterSweepOf
  split_ifs with hq hstate
  · exact h
  · have hbit : ∀ p q : Port, q ≠ p → (BitVec.ofNat 4 (2 ^ p.val)).getLsbD q.val = false := by decide
    rw [BitVec.getLsbD_or, h, hbit p q hq]
    rfl
  · exact h

theorem PortsSound.finalStep {s : State} (h : PortsSound s) (hsweep : SweepQueueSound s) {p : Port}
    (hengine : s.engine = .busy p .final) : PortsSound (s.reportSweepEnd p).nextSweep := by
  intro q
  obtain ⟨hempty, hsummary, hbound⟩ := h q
  have hframe := (s.reportSweepEnd p).nextSweep_frame
  have hinbox : (s.reportSweepEnd p).nextSweep.inbox q = s.inbox q := by rw [hframe]; rfl
  have hpool : (s.reportSweepEnd p).nextSweep.pool q = s.pool q := by rw [hframe]; rfl
  rw [hinbox, hpool, State.attached_eq, State.nextSweep_session, State.reportSweepEnd_departureQueue,
    State.reportSweepEnd_session]
  by_cases hqueued : s.departureQueue.head? = some q
  · have hnot : s.attached q = false := by simp [State.attached, hsweep.queued_state (List.mem_of_head? hqueued)]
    rw [if_pos hqueued]
    exact ⟨fun _ => hempty hnot, Session.afterSweepOf_summary hsummary, hbound⟩
  · rw [if_neg hqueued, Session.afterSweepOf_state]
    refine ⟨fun hnot => hempty ?_, Session.afterSweepOf_summary hsummary, hbound⟩
    by_cases hq : q = p
    · rw [hq]
      exact hsweep.swept_not_attached hengine
    · rw [if_neg hq] at hnot
      exact hnot

theorem PortsSound.reset : PortsSound State.reset := by unfold PortsSound; decide

theorem PortsSound.blockStep {s t : State} (h : PortsSound s) (hsweep : SweepQueueSound s) (hstep : BlockStep s t) :
    PortsSound t := by
  cases hstep with
  | lock k p t hmove =>
    have hframe := LockTableOnly.of_lockMove hmove
    exact h.of_eq (fun q => by rw [hframe]; exact ⟨rfl, rfl⟩) (fun q hq => hmove.entries hq) hmove.cap
  | barrier r b k t hlive hmove =>
    have hframe := BarriersOnly.of_barrierMove hmove
    exact h.of_eq (fun q => by rw [hframe]; exact ⟨rfl, rfl⟩) (fun q hq => hmove.entries hq)
      fun q => by rw [hframe]; rfl
  | attach p => exact h.startSession p
  | depart p c => exact h.depart p c
  | portReset p => exact h.resetPort p
  | summary p v => exact h.writeDsum p v
  | interval p v =>
    have hframe := s.writeKalive_frame p v
    refine h.of_eq (fun q => ?_) (fun q _ => by rw [hframe]; rfl) fun q => by rw [hframe]; rfl
    rw [State.attached_eq, State.writeKalive_session]
    split_ifs with hq
    · rw [hq]
      exact ⟨rfl, rfl⟩
    · exact ⟨rfl, rfl⟩
  | cap p v => exact h.writeWcap p v
  | renewKeepalive p => rw [State.renewKeepalive_eq]; exact h
  | deliver p e hlive hroom =>
    refine h.of_eq (fun q => ⟨rfl, rfl⟩) (fun q hq => ?_) fun q => rfl
    rw [State.deliver, State.setInbox_inbox_ne _ _ _ _ (State.port_ne_of_attached hlive hq).symm]
  | pop p => exact h.popInbox p
  | lockVisit p i hengine =>
    have hsteps := LockSteps.visitLock s p i
    exact h.of_eq (t := s.visitLock p i) (fun q => ⟨s.visitLock_attached p i q, by rw [s.visitLock_session]⟩)
      (fun q hq => hsteps.entries hq) fun q => (hsteps.pool q).1
  | barrierVisit p b hengine =>
    exact h.of_eq (t := s.visitBarrier p b) (fun q => ⟨s.visitBarrier_attached p b q, by rw [s.visitBarrier_session]⟩)
      (fun q hq => State.visitBarrier_entries hq p b) fun q => by simp [State.pool]
  | finalStep p hengine => exact h.finalStep hsweep hengine
  | deviceReset => exact PortsSound.reset
  | _ => exact h

theorem PortsSound.hostOnly {u t : State} (h : PortsSound u) (hhost : HostOnly u t) : PortsSound t := by
  rw [hhost]
  exact h

end Sys2Proof.Machine
end

section
/-! PROOFS. What an event leaves of a port that did not issue it (R119, R125, R148, R155). -/

namespace Sys2Proof.Machine

/-- From `s` to `t`, port `q`'s interface, command unit, session record, cap and ticket counter have not changed. -/
def PortKept (q : Port) (s t : State) : Prop :=
  t.interface q = s.interface q ∧ t.unit q = s.unit q ∧ t.session q = s.session q ∧ (t.pool q).cap = (s.pool q).cap ∧
    (t.pool q).nextTicket = (s.pool q).nextTicket

theorem PortKept.refl (q : Port) (s : State) : PortKept q s s := ⟨rfl, rfl, rfl, rfl, rfl⟩

theorem PortKept.trans {q : Port} {s t u : State} (h : PortKept q s t) (h' : PortKept q t u) : PortKept q s u := by
  obtain ⟨hinterface, hunit, hsession, hcap, hticket⟩ := h
  obtain ⟨hinterface', hunit', hsession', hcap', hticket'⟩ := h'
  exact ⟨hinterface'.trans hinterface, hunit'.trans hunit, hsession'.trans hsession, hcap'.trans hcap, hticket'.trans hticket⟩

/-! ### The blocks -/

theorem PortKept.of_lockSteps {i : LockIndex} {s t : State} (h : LockSteps i s t) (q : Port) : PortKept q s t := by
  obtain ⟨hcap, hticket⟩ := h.pool q
  have hframe := QueuesOnly.of_lockSteps h
  exact ⟨by rw [hframe]; rfl, by rw [hframe]; rfl, by rw [hframe]; rfl, hcap, hticket⟩

theorem LockMove.nextTicket {s t : State} {p : Port} {k : Command} (h : LockMove s p k t) {q : Port}
    (hq : q ≠ p ∨ k ≠ .acquire) : (t.pool q).nextTicket = (s.pool q).nextTicket := by
  cases h with
  | wait r h m limit hport =>
    rw [State.withWaiter_pool, if_neg]
    rintro rfl
    exact hq.elim (absurd hport) (absurd rfl)
  | evaluated k i u hsteps => exact (hsteps.evaluate.pool q).2
  | _ => rfl

theorem PortKept.of_lockMove {s t : State} {p : Port} {k : Command} (h : LockMove s p k t) {q : Port} (hq : q ≠ p) :
    PortKept q s t := by
  have hframe := LockTableOnly.of_lockMove h
  exact ⟨by rw [hframe]; rfl, by rw [hframe]; rfl, by rw [hframe]; rfl, h.cap q, h.nextTicket (.inl hq)⟩

theorem PortKept.of_barriersOnly {s t : State} (h : BarriersOnly s t) (q : Port) : PortKept q s t := by
  rw [h]
  exact .refl q s

theorem PortKept.startSession (s : State) {p q : Port} (hq : q ≠ p) : PortKept q s (s.startSession p) := by
  have hpool : (s.startSession p).pool q = s.pool q := (State.setPool_pool _ p _ q).trans (if_neg hq)
  exact ⟨rfl, rfl, (s.startSession_session p q).trans (if_neg hq), by rw [hpool], by rw [hpool]⟩

theorem PortKept.depart (s : State) {p q : Port} (hq : q ≠ p) (c : Cause) : PortKept q s (s.depart p c) :=
  ⟨s.depart_interface p c q, s.depart_unit_ne p c hq, (s.depart_session p c q).trans (if_neg hq),
    by rw [s.depart_pool], by rw [s.depart_pool]⟩

theorem PortKept.resetWindow (s : State) {p q : Port} (hq : q ≠ p) : PortKept q s (s.resetWindow p) := by
  have hpool := (s.resetWindow_pool p q).trans (if_neg hq)
  exact ⟨State.setInterface_interface_ne s p _ q hq, State.setUnit_unit_ne _ p _ q hq,
    (s.resetWindow_session p q).trans (if_neg hq), by rw [hpool], by rw [hpool]⟩

theorem PortKept.resetPort (s : State) {p q : Port} (hq : q ≠ p) : PortKept q s (s.resetPort p) := by
  cases hlive : s.attached p with
  | true =>
    rw [State.resetPort_of_attached hlive]
    exact (PortKept.depart s hq .portReset).trans (.resetWindow _ hq)
  | false =>
    rw [State.resetPort_of_not_attached hlive]
    exact .resetWindow s hq

theorem PortKept.setUnit (s : State) {p q : Port} (hq : q ≠ p) (x : CommandUnit) : PortKept q s (s.setUnit p x) :=
  ⟨rfl, s.setUnit_unit_ne p x q hq, rfl, rfl, rfl⟩

theorem PortKept.setInterface (s : State) {p q : Port} (hq : q ≠ p) (x : PortInterface) :
    PortKept q s (s.setInterface p x) :=
  ⟨s.setInterface_interface_ne p x q hq, rfl, rfl, rfl, rfl⟩

theorem PortKept.writeKalive (s : State) {p q : Port} (hq : q ≠ p) (v : Word) : PortKept q s (s.writeKalive p v) := by
  have hsession := (s.writeKalive_session p q v).trans (if_neg hq)
  have hframe := s.writeKalive_frame p v
  exact ⟨by rw [hframe]; rfl, by rw [hframe]; rfl, hsession, by rw [hframe]; rfl, by rw [hframe]; rfl⟩

theorem PortKept.writeWcap (s : State) {p q : Port} (hq : q ≠ p) (v : Word) : PortKept q s (s.writeWcap p v) := by
  by_cases hv : v.toNat ≤ Config.waiterRecords
  · have hpool := (s.writeWcap_pool p q v hv).trans (if_neg hq)
    have hframe := s.writeWcap_frame p v
    exact ⟨by rw [hframe]; rfl, by rw [hframe]; rfl, by rw [hframe]; rfl, by rw [hpool], by rw [hpool]⟩
  · rw [State.writeWcap, if_neg hv]
    exact .refl q s

/-- R149 to R151, R165: a write of one port leaves the others alone. -/
theorem PortKept.of_written {s t : State} {p : Port} {off : Offset} (h : Written s p off t) {q : Port} (hq : q ≠ p) :
    PortKept q s t := by
  cases h with
  | ignored | popped | prescale => exact ⟨rfl, rfl, rfl, rfl, rfl⟩
  | stored x => exact .setInterface s hq x
  | overran | cleared => exact .setUnit s hq _
  | taken v =>
    rw [State.takeCommand_eq, State.renewKeepalive_eq]
    exact .setUnit _ hq _
  | summary v => exact ⟨rfl, rfl, (s.writeDsum_session p q v).trans (if_neg hq), rfl, rfl⟩
  | interval v => exact .writeKalive s hq v
  | cap v => exact .writeWcap s hq v
  | reset => exact .resetPort s hq

/-! ### The owners (R119) -/

/-- What an owner does to a port that did not issue the request: nothing, or a FORCE_DETACH departs it. -/
theorem OwnerStep.portKept {s t : State} {k : Command} {p : Port} (h : OwnerStep s k p t) {q : Port} (hq : q ≠ p) :
    PortKept q s t ∨ (k = .forceDetach ∧ s.attached q = true ∧ ∃ c, t = s.depart q c) := by
  cases h with
  | idle => exact .inl (.refl q s)
  | lock t h => exact .inl (.of_lockMove h hq)
  | barrier r b t hlive h => exact .inl (.of_barriersOnly (.of_barrierMove h) q)
  | attach => exact .inl (.startSession s hq)
  | depart n c hlive hk =>
    by_cases hqn : q = n
    · subst hqn
      refine .inr ⟨?_, hlive, c, rfl⟩
      exact hk.resolve_left fun hdetach => hq hdetach.2
    · exact .inl (.depart s hqn c)
  | deliver => exact .inl ⟨rfl, rfl, rfl, rfl, rfl⟩

/-- From `s` to `t`, nothing has changed of port `q` but what a departure changes. -/
def PortShown (q : Port) (s t : State) : Prop :=
  t.interface q = s.interface q ∧ (t.pool q).cap = (s.pool q).cap ∧ (t.pool q).nextTicket = (s.pool q).nextTicket ∧
    (t.session q).summary = (s.session q).summary ∧ (t.session q).keepalive = (s.session q).keepalive ∧
    (t.unit q).rcode = (s.unit q).rcode ∧ (t.unit q).lastCode = (s.unit q).lastCode ∧
    (t.unit q).inFlight.isSome = (s.unit q).inFlight.isSome

theorem PortKept.shown {q : Port} {s t : State} (h : PortKept q s t) : PortShown q s t := by
  obtain ⟨hinterface, hunit, hsession, hcap, hticket⟩ := h
  rw [PortShown, hunit, hsession]
  exact ⟨hinterface, hcap, hticket, rfl, rfl, rfl, rfl, rfl⟩

theorem PortShown.depart (s : State) (q : Port) (c : Cause) : PortShown q s (s.depart q c) := by
  rw [PortShown, s.depart_unit_self, s.depart_session, s.depart_pool, s.depart_interface, if_pos rfl]
  refine ⟨rfl, rfl, rfl, rfl, rfl, ?_⟩
  unfold CommandUnit.markDeparted
  split
  case h_1 c' a d hflight => exact ⟨rfl, rfl, by rw [hflight]; rfl⟩
  case h_2 => exact ⟨rfl, rfl, rfl⟩

/-! ### The events with an issuer -/

theorem issuer_request (k : Command) (p : Port) : issuer (k.request p) = some p := by cases k <;> rfl

theorem issuer_of_busWrite {c : Instr} {p : Port} {off : Offset} {v : Word} (h : busWrite c = some (p, off, v)) :
    issuer c = some p := by
  cases c
  case cmdWrite | overrun | pop | summaryClear | ienWrite | istatClear | keepaliveIntervalWrite | waiterCapWrite
      | softReset | prescaleWrite | registerWrite => cases h; rfl
  all_goals cases h

theorem SameInputs.held {s t : State} (h : SameInputs s t) (q : Port) : t.held q = s.held q := by
  obtain ⟨-, -, -, hprst, -⟩ := h
  simp only [State.held, hprst]

theorem Written.held {s t : State} {p : Port} {off : Offset} (h : Written s p off t) (q : Port) : t.held q = s.held q := by
  cases h with
  | taken v => rw [State.takeCommand_eq, State.renewKeepalive_eq]; rfl
  | interval v => exact (SameInputs.writeKalive s p v).held q
  | cap v => exact (SameInputs.writeWcap s p v).held q
  | reset => exact s.resetPort_held p q
  | _ => rfl

theorem OwnerStep.sameInputs {s t : State} {k : Command} {p : Port} (h : OwnerStep s k p t) : SameInputs s t := by
  cases h with
  | lock t h => rw [LockTableOnly.of_lockMove h]; exact .refl s
  | barrier r b t hlive h => rw [BarriersOnly.of_barrierMove h]; exact .refl s
  | depart q c => rw [DepartureOnly.depart s q c]; exact .refl s
  | _ => exact .refl s

/-- A request of port `p` leaves another port's part as it was, but that a FORCE_DETACH departs its target. -/
theorem OwnerStep.portShown {s t : State} {k : Command} {p : Port} (h : OwnerStep s k p t) {q : Port} (hq : q ≠ p)
    (a : Answer) :
    PortShown q s (t.answer p a) ∧ (k ≠ .forceDetach → PortKept q s (t.answer p a)) := by
  have hanswer : PortKept q t (t.answer p a) := .setUnit t hq _
  obtain hkept | ⟨hk, -, c, rfl⟩ := h.portKept hq
  · have hall := hkept.trans hanswer
    exact ⟨hall.shown, fun _ => hall⟩
  · refine ⟨?_, fun hnot => absurd hk hnot⟩
    obtain ⟨hinterface, hunit, hsession, hcap, hticket⟩ := hanswer
    rw [PortShown, hinterface, hunit, hsession, hcap, hticket]
    exact PortShown.depart s q c

/-- R119, R122, R125, R148, R155: what an event that port `p` issues leaves of port `q`. -/
theorem Event.portShown {s t : State} {c : Instr} (h : Event s c t) {p q : Port} (hissuer : issuer c = some p) (hq : q ≠ p) :
    t.held q = s.held q ∧ PortShown q s t ∧ (c ≠ .forceDetach p → PortKept q s t) := by
  have hkept : ∀ u, u.held q = s.held q → PortKept q s u →
      u.held q = s.held q ∧ PortShown q s u ∧ (c ≠ .forceDetach p → PortKept q s u) :=
    fun u hheld hu => ⟨hheld, hu.shown, fun _ => hu⟩
  cases h with
  | unchanged => exact hkept s rfl (.refl q s)
  | refused k n =>
    obtain rfl : n = p := Option.some.inj ((issuer_request k n).symm.trans hissuer)
    exact hkept _ rfl (.setUnit s hq _)
  | served k n a hflight hlive =>
    obtain rfl : n = p := Option.some.inj ((issuer_request k n).symm.trans hissuer)
    have hstep := OwnerStep.of_owner hflight hlive
    obtain ⟨hshown, hother⟩ := hstep.portShown hq (k.owner n a s).2
    refine ⟨hstep.sameInputs.held q, hshown, fun hc => hother ?_⟩
    rintro rfl
    exact hc rfl
  | written _ n off v hwrite hreset hheld t h =>
    obtain rfl : n = p := Option.some.inj ((issuer_of_busWrite hwrite).symm.trans hissuer)
    exact hkept t (h.held q) (.of_written h hq)
  | completed n =>
    obtain rfl : n = p := Option.some.inj hissuer
    exact hkept _ rfl (.setUnit s hq _)
  | ticklRead n =>
    obtain rfl : n = p := Option.some.inj hissuer
    unfold State.readTickl
    split_ifs <;> exact hkept _ rfl (.setInterface s hq _)
  | portReset n =>
    obtain rfl : n = p := Option.some.inj hissuer
    exact hkept _ ((State.setHeld_held_ne _ n true q hq).trans (s.resetPort_held n q)) (.resetPort s hq)
  | heldInReset n | released n =>
    obtain rfl : n = p := Option.some.inj hissuer
    exact hkept _ (s.setHeld_held_ne n _ q hq) (.refl q s)
  | deviceReset | resetnRelease | tick | waitExpiry | leaseExpiry | keepaliveExpiry | lockVisit | barrierVisit | finalStep =>
    exact nomatch hissuer

end Sys2Proof.Machine
end

section
/-! PROOFS. Ports do not reach into each other (chapters 6 and 8). -/

open Sys2Proof Sys2Proof.Machine

/-- Settles O60: `Event.portShown`, read part by part. -/
theorem otherPortsUntouched : Obligations.OtherPortsUntouched := by
  intro c p q s t hissuer hq hexec
  obtain ⟨hheld, ⟨hinterface, hcap, hticket, hsummary, hkeepalive, hrcode, hlast, hbusy⟩, hkept⟩ :=
    (Event.of_exec hexec).portShown hissuer hq
  refine ⟨hinterface, hheld, hcap, hticket, fun hc => ?_, fun _ => ⟨hsummary, hkeepalive, hrcode, hlast, hbusy⟩⟩
  obtain ⟨-, hunit, hsession, -, -⟩ := hkept hc
  exact ⟨hunit, hsession⟩
end

section
/-! PROOFS. Which events change the supervisor identity, the prescale value, the tick counter, a generation, a phase, a
ticket counter, or start or end a session (R7, R26, R53, R54, R96, R112, R114, R122, R127). -/

namespace Sys2Proof.Machine

/-! ### The owners -/

theorem LockStep.generation {i : LockIndex} {s t : State} (h : LockStep i s t) :
    (t.lock i).generation = (s.lock i).generation := by
  cases h with
  | discard w => rw [State.discardRecord_lock, if_pos rfl]
  | grant w => rw [State.grantHead_lock, if_pos rfl, LockEntry.grantTo_generation]
  | expire w => rw [State.expireRecord_lock]
  | revoke r k rest => rw [State.revoke_lock]
  | endHold r shared mark => rw [State.endHold_lock]
  | narrow => rw [State.setLock_lock_self]

theorem LockSteps.generation {i : LockIndex} {s t : State} (h : LockSteps i s t) (j : LockIndex) :
    (t.lock j).generation = (s.lock j).generation := by
  by_cases hj : j = i
  · subst hj
    exact h.keeps (P := fun u => (u.lock j).generation = (s.lock j).generation) rfl
      fun _ _ hstep hu => hstep.generation.trans hu
  · rw [h.lock_ne hj]

theorem OnlyLock.generation {s t : State} {i : LockIndex} {x : LockEntry} (h : OnlyLock i x s t)
    (hx : x.generation = (s.lock i).generation) (j : LockIndex) : (t.lock j).generation = (s.lock j).generation := by
  by_cases hj : j = i
  · rw [hj, h.1, hx]
  · rw [h.2 j hj]

theorem LockMove.generation {s t : State} {p : Port} {k : Command} (h : LockMove s p k t) (hk : k ≠ .retire)
    (j : LockIndex) : (t.lock j).generation = (s.lock j).generation := by
  cases h with
  | retire => exact absurd rfl hk
  | renew => rfl
  | evaluated k i u hsteps => exact hsteps.evaluate.generation j
  | allocate | define | wait =>
    refine OnlyLock.generation (.of_locks_eq rfl) ?_ j
    rfl
  | grant | grantLease =>
    refine OnlyLock.generation (.of_locks_eq rfl) ?_ j
    exact LockEntry.grantTo_generation _ _ _

theorem BarrierMove.phase {s t : State} {r : Requester} {b : BarrierIndex} {k : Command} (h : BarrierMove s r b k t)
    (hk : k ≠ .arrive ∧ k ≠ .leave ∧ k ≠ .breakBarrier) (c : BarrierIndex) : (t.barrier c).phase = (s.barrier c).phase := by
  have hrewritten : ∀ x : Barrier, x.phase = (s.barrier b).phase → ((s.setBarrier b x).barrier c).phase = (s.barrier c).phase := by
    intro x hx
    rw [State.setBarrier_barrier]
    split_ifs with hc
    · rw [hx, hc]
    · rfl
  obtain ⟨harrive, hleave, hbreak⟩ := hk
  cases h with
  | join | rearm | withdraw => exact hrewritten _ rfl
  | leave | leaveOpens => exact absurd rfl hleave
  | arrive | arriveOpens => exact absurd rfl harrive
  | breakRound | breakIdle => exact absurd rfl hbreak

theorem OwnerStep.tick {s t : State} {k : Command} {p : Port} (h : OwnerStep s k p t) : t.tick = s.tick := by
  cases h with
  | lock t h => rw [LockTableOnly.of_lockMove h]
  | barrier r b t hlive h => rw [BarriersOnly.of_barrierMove h]
  | depart q c => exact s.depart_tick q c
  | _ => rfl

theorem OwnerStep.generation {s t : State} {k : Command} {p : Port} (h : OwnerStep s k p t) (hk : k ≠ .retire)
    (i : LockIndex) : (t.lock i).generation = (s.lock i).generation := by
  cases h with
  | lock t h => exact h.generation hk i
  | barrier r b t hlive h => rw [BarriersOnly.of_barrierMove h]; rfl
  | depart q c => rw [s.depart_lock]
  | _ => rfl

theorem OwnerStep.phase {s t : State} {k : Command} {p : Port} (h : OwnerStep s k p t)
    (hk : k ≠ .arrive ∧ k ≠ .leave ∧ k ≠ .breakBarrier) (b : BarrierIndex) :
    (t.barrier b).phase = (s.barrier b).phase := by
  cases h with
  | lock t h => rw [LockTableOnly.of_lockMove h]; rfl
  | barrier r c t hlive h => exact h.phase hk b
  | depart q c => rw [s.depart_barrier]
  | _ => rfl

theorem OwnerStep.nextTicket {s t : State} {k : Command} {p : Port} (h : OwnerStep s k p t) {q : Port}
    (hacquire : q ≠ p ∨ k ≠ .acquire) (hattach : q ≠ p ∨ k ≠ .attach) : (t.pool q).nextTicket = (s.pool q).nextTicket := by
  cases h with
  | lock t h => exact h.nextTicket hacquire
  | barrier r b t hlive h => rw [BarriersOnly.of_barrierMove h]; rfl
  | attach hk =>
    obtain ⟨-, -, -, -, hticket⟩ := PortKept.startSession s (hattach.resolve_right fun hnot => hnot hk)
    exact hticket
  | depart n c => rw [s.depart_pool]
  | _ => rfl

theorem State.depart_session_generation (s : State) (p q : Port) (c : Cause) :
    ((s.depart p c).session q).generation = (s.session q).generation := by
  rw [State.depart_session]
  by_cases hq : q = p
  · rw [if_pos hq, hq]
  · rw [if_neg hq]

theorem OwnerStep.session_generation {s t : State} {k : Command} {p : Port} (h : OwnerStep s k p t) {q : Port}
    (hattach : q ≠ p ∨ k ≠ .attach) : (t.session q).generation = (s.session q).generation := by
  cases h with
  | lock t h => rw [LockTableOnly.of_lockMove h]; rfl
  | barrier r b t hlive h => rw [BarriersOnly.of_barrierMove h]; rfl
  | attach hk => rw [s.startSession_session, if_neg (hattach.resolve_right fun hnot => hnot hk)]
  | depart n c => exact s.depart_session_generation n q c
  | _ => rfl

/-- A departure ends the session of its port and of no other (R112). -/
theorem State.depart_attached (s : State) (p q : Port) (c : Cause) :
    (s.depart p c).attached q = if q = p then false else s.attached q := by
  rw [State.attached_eq, State.depart_session]
  by_cases hq : q = p
  · by_cases hidle : s.engine = .idle <;> simp [hq, hidle]
  · rw [if_neg hq, if_neg hq]
    rfl

theorem OwnerStep.attached {s t : State} {k : Command} {p : Port} (h : OwnerStep s k p t) (q : Port) :
    t.attached q = s.attached q ∨ (k = .attach ∧ q = p ∧ s.attached q = false) ∨
      (t.attached q = false ∧ ((k = .detach ∧ q = p) ∨ k = .forceDetach)) := by
  cases h with
  | lock t h => rw [LockTableOnly.of_lockMove h]; exact .inl rfl
  | barrier r b t hlive h => rw [BarriersOnly.of_barrierMove h]; exact .inl rfl
  | attach hk hdetached =>
    by_cases hq : q = p
    · exact .inr (.inl ⟨hk, hq, by simp [State.attached, hq, hdetached]⟩)
    · rw [State.attached_eq, s.startSession_session, if_neg hq]
      exact .inl rfl
  | depart n c hlive hk =>
    rw [State.depart_attached]
    by_cases hq : q = n
    · subst hq
      rw [if_pos rfl]
      exact .inr (.inr ⟨rfl, hk⟩)
    · rw [if_neg hq]
      exact .inl rfl
  | _ => exact .inl rfl

/-! ### The window -/

theorem State.resetWindow_attached (s : State) (p q : Port) : (s.resetWindow p).attached q = s.attached q := by
  rw [State.attached_eq, State.resetWindow_session]
  split_ifs with hq
  · rw [hq]
    rfl
  · rfl

theorem State.resetPort_session_generation (s : State) (p q : Port) :
    ((s.resetPort p).session q).generation = (s.session q).generation := by
  have hwindow : ∀ u : State, ((u.resetWindow p).session q).generation = (u.session q).generation := fun u => by
    rw [State.resetWindow_session]
    split_ifs with hq
    · rw [hq]
    · rfl
  cases hlive : s.attached p with
  | true => rw [State.resetPort_of_attached hlive, hwindow, State.depart_session_generation]
  | false => rw [State.resetPort_of_not_attached hlive, hwindow]

/-- A port reset ends the session of its port, and of no other. -/
theorem State.resetPort_attached (s : State) (p q : Port) :
    (s.resetPort p).attached q = if q = p then false else s.attached q := by
  cases hlive : s.attached p with
  | true => rw [State.resetPort_of_attached hlive, State.resetWindow_attached, State.depart_attached]
  | false =>
    rw [State.resetPort_of_not_attached hlive, State.resetWindow_attached]
    split_ifs with hq
    · rw [hq, hlive]
    · rfl

theorem State.resetPort_nextTicket (s : State) (p q : Port) :
    ((s.resetPort p).pool q).nextTicket = (s.pool q).nextTicket := by
  have hwindow : ∀ u : State, ((u.resetWindow p).pool q).nextTicket = (u.pool q).nextTicket := fun u => by
    rw [State.resetWindow_pool]
    split_ifs with hq
    · rw [hq]
    · rfl
  cases hlive : s.attached p with
  | true => rw [State.resetPort_of_attached hlive, hwindow, State.depart_pool]
  | false => rw [State.resetPort_of_not_attached hlive, hwindow]

theorem State.writeWcap_nextTicket (s : State) (p q : Port) (v : Word) :
    ((s.writeWcap p v).pool q).nextTicket = (s.pool q).nextTicket := by
  by_cases hv : v.toNat ≤ Config.waiterRecords
  · rw [s.writeWcap_pool p q v hv]
    split_ifs with hq
    · rw [hq]
    · rfl
  · rw [State.writeWcap, if_neg hv]

theorem State.writeKalive_attached (s : State) (p q : Port) (v : Word) : (s.writeKalive p v).attached q = s.attached q := by
  rw [State.attached_eq, State.writeKalive_session]
  split_ifs with hq
  · rw [hq]
    rfl
  · rfl

theorem State.writeDsum_attached (s : State) (p q : Port) (v : Word) : (s.writeDsum p v).attached q = s.attached q := by
  rw [State.attached_eq, State.writeDsum_session]
  split_ifs with hq
  · rw [hq]
    rfl
  · rfl

theorem Written.supervisor {s t : State} {p : Port} {off : Offset} (h : Written s p off t) :
    t.supervisor = s.supervisor := by
  cases h with
  | taken v => rw [State.takeCommand_eq, State.renewKeepalive_eq]; rfl
  | interval v => exact (SameInputs.writeKalive s p v).2.1
  | cap v => exact (SameInputs.writeWcap s p v).2.1
  | reset => exact (SameInputs.resetPort s p).2.1
  | _ => rfl

theorem Written.prescale_eq {s t : State} {p : Port} {off : Offset} (h : Written s p off t) :
    t.prescale = s.prescale ∨ (off = 0x1A ∧ p = s.supervisor) := by
  cases h with
  | taken v => rw [State.takeCommand_eq, State.renewKeepalive_eq]; exact .inl rfl
  | interval v => exact .inl (SameInputs.writeKalive s p v).1
  | cap v => exact .inl (SameInputs.writeWcap s p v).1
  | reset => exact .inl (SameInputs.resetPort s p).1
  | prescale v hoff hsupervisor => exact .inr ⟨hoff, hsupervisor⟩
  | _ => exact .inl rfl

/-- From `s` to `t`, nothing has changed but what a host's writes change. -/
def WindowOnly (s t : State) : Prop :=
  t = { s with
    interfaces := t.interfaces, units := t.units, poolPorts := t.poolPorts, deadlines := t.deadlines
    prescale := t.prescale, inboxes := t.inboxes, sessions := t.sessions, engine := t.engine
    departureQueue := t.departureQueue }

theorem Written.windowOnly {s t : State} {p : Port} {off : Offset} (h : Written s p off t) : WindowOnly s t := by
  cases h with
  | taken v => rw [State.takeCommand_eq, State.renewKeepalive_eq]; rfl
  | interval v => rw [State.writeKalive_frame]; rfl
  | cap v => rw [State.writeWcap_frame]; rfl
  | reset => rw [State.resetPort_frame]; rfl
  | _ => rfl

theorem Written.session_generation {s t : State} {p : Port} {off : Offset} (h : Written s p off t) (q : Port) :
    (t.session q).generation = (s.session q).generation := by
  cases h with
  | taken v => rw [State.takeCommand_eq, State.renewKeepalive_eq]; rfl
  | summary v => rw [State.writeDsum_session]; split_ifs with hq <;> simp [hq]
  | interval v => rw [State.writeKalive_session]; split_ifs with hq <;> simp [hq]
  | cap v => rw [State.writeWcap_frame]; rfl
  | reset => exact s.resetPort_session_generation p q
  | _ => rfl

theorem Written.nextTicket {s t : State} {p : Port} {off : Offset} (h : Written s p off t) (q : Port) :
    (t.pool q).nextTicket = (s.pool q).nextTicket := by
  cases h with
  | taken v => rw [State.takeCommand_eq, State.renewKeepalive_eq]; rfl
  | interval v => rw [State.writeKalive_frame]; rfl
  | cap v => exact s.writeWcap_nextTicket p q v
  | reset => exact s.resetPort_nextTicket p q
  | _ => rfl

theorem Written.attached {s t : State} {p : Port} {off : Offset} (h : Written s p off t) (q : Port) :
    t.attached q = s.attached q ∨ (t.attached q = false ∧ off = 0x17 ∧ q = p) := by
  cases h with
  | taken v => rw [State.takeCommand_eq, State.renewKeepalive_eq]; exact .inl rfl
  | summary v => exact .inl (s.writeDsum_attached p q v)
  | interval v => exact .inl (s.writeKalive_attached p q v)
  | cap v => rw [State.writeWcap_frame]; exact .inl rfl
  | reset hoff =>
    rw [State.resetPort_attached]
    by_cases hq : q = p
    · rw [if_pos hq]
      exact .inr ⟨rfl, hoff, hq⟩
    · rw [if_neg hq]
      exact .inl rfl
  | _ => exact .inl rfl

/-- A bus write at offset 17h or 1Ah is the row of its own, or REGISTER_WRITE at it (log 11). -/
theorem busWrite_reset {c : Instr} {p : Port} {v : Word} (h : busWrite c = some (p, 0x17, v)) :
    c = .softReset p v ∨ c = .registerWrite p 0x17 v := by
  cases c
  case softReset => cases h; exact .inl rfl
  case registerWrite => cases h; exact .inr rfl
  all_goals exact absurd h (by simp [busWrite])

theorem busWrite_prescale {c : Instr} {p : Port} {v : Word} (h : busWrite c = some (p, 0x1A, v)) :
    c = .prescaleWrite p v ∨ c = .registerWrite p 0x1A v := by
  cases c
  case prescaleWrite => cases h; exact .inl rfl
  case registerWrite => cases h; exact .inr rfl
  all_goals exact absurd h (by simp [busWrite])

/-! ### The events -/

theorem Event.supervisor_cases {s t : State} {c : Instr} (h : Event s c t) :
    t.supervisor = s.supervisor ∨ (c = .deviceReset ∧ t = s.deviceReset) ∨
      ∃ sup, c = .resetnRelease sup ∧ s.resetLow = true := by
  cases h with
  | served k p a hflight hlive => exact .inl (OwnerStep.of_owner hflight hlive).sameInputs.2.1
  | written _ p off v hwrite hreset hheld t h => exact .inl h.supervisor
  | ticklRead p => unfold State.readTickl; split_ifs <;> exact .inl rfl
  | portReset p => exact .inl (SameInputs.resetPort s p).2.1
  | deviceReset => exact .inr (.inl ⟨rfl, rfl⟩)
  | resetnRelease sup hreset => exact .inr (.inr ⟨sup, rfl, hreset⟩)
  | keepaliveExpiry p => unfold State.expireKeepalive; split_ifs <;> simp
  | finalStep p => rw [State.nextSweep_frame]; exact .inl rfl
  | waitExpiry | leaseExpiry | lockVisit | barrierVisit => simp
  | _ => exact .inl rfl

theorem Event.supervisor {s t : State} {c : Instr} (h : Event s c t) (hc : c ≠ .deviceReset) :
    t.supervisor = s.supervisor ∨ ∃ sup, c = .resetnRelease sup := by
  obtain hkept | ⟨hreset, -⟩ | ⟨sup, hsup, -⟩ := h.supervisor_cases
  · exact .inl hkept
  · exact absurd hreset hc
  · exact .inr ⟨sup, hsup⟩

theorem Event.prescale {s t : State} {c : Instr} (h : Event s c t) (hc : c ≠ .deviceReset) :
    t.prescale = s.prescale ∨ ∃ v, c = .prescaleWrite s.supervisor v ∨ c = .registerWrite s.supervisor 0x1A v := by
  cases h with
  | served k p a hflight hlive => exact .inl (OwnerStep.of_owner hflight hlive).sameInputs.1
  | written _ p off v hwrite hreset hheld t h =>
    obtain hsame | ⟨rfl, rfl⟩ := h.prescale_eq
    · exact .inl hsame
    · exact .inr ⟨v, busWrite_prescale hwrite⟩
  | ticklRead p => unfold State.readTickl; split_ifs <;> exact .inl rfl
  | portReset p => exact .inl (SameInputs.resetPort s p).1
  | deviceReset => exact absurd rfl hc
  | keepaliveExpiry p => unfold State.expireKeepalive; split_ifs <;> simp
  | finalStep p => rw [State.nextSweep_frame]; exact .inl rfl
  | waitExpiry | leaseExpiry | lockVisit | barrierVisit => simp
  | _ => exact .inl rfl

theorem Event.tick_eq {s t : State} {c : Instr} (h : Event s c t) (hc : c ≠ .deviceReset) : t.tick = s.tick ∨ c = .tick := by
  cases h with
  | served k p a hflight hlive => exact .inl (OwnerStep.of_owner hflight hlive).tick
  | written _ p off v hwrite hreset hheld t h => rw [h.windowOnly]; exact .inl rfl
  | ticklRead p => unfold State.readTickl; split_ifs <;> exact .inl rfl
  | portReset p => rw [s.resetPort_frame]; exact .inl rfl
  | deviceReset => exact absurd rfl hc
  | tick => exact .inr rfl
  | keepaliveExpiry p => unfold State.expireKeepalive; split_ifs <;> simp
  | finalStep p => rw [State.nextSweep_frame]; exact .inl rfl
  | waitExpiry | leaseExpiry | lockVisit | barrierVisit => simp
  | _ => exact .inl rfl

theorem Event.session_generation {s t : State} {c : Instr} (h : Event s c t) (hc : c ≠ .deviceReset) (q : Port) :
    (t.session q).generation = (s.session q).generation ∨ c = .attach q := by
  cases h with
  | served k p a hflight hlive =>
    by_cases hattach : k = .attach ∧ q = p
    · obtain ⟨rfl, rfl⟩ := hattach
      exact .inr rfl
    · exact .inl ((OwnerStep.of_owner hflight hlive).session_generation
        (or_iff_not_imp_right.2 fun hk hq => hattach ⟨not_not.1 hk, hq⟩))
  | written _ p off v hwrite hreset hheld t h => exact .inl (h.session_generation q)
  | ticklRead p => unfold State.readTickl; split_ifs <;> exact .inl rfl
  | portReset p => exact .inl (s.resetPort_session_generation p q)
  | deviceReset => exact absurd rfl hc
  | keepaliveExpiry p k rest hlist =>
    refine .inl ?_
    obtain ⟨-, hexpire⟩ | ⟨-, hexpire⟩ := State.expireKeepalive_cases hlist
    · rw [hexpire, s.depart_session_generation]
    · rw [hexpire]
      rfl
  | finalStep p =>
    rw [State.nextSweep_session, State.reportSweepEnd_session, Session.afterSweepOf]
    split_ifs <;> exact .inl rfl
  | waitExpiry i r k rest hlist => exact .inl (by rw [State.expireWait_session]; rfl)
  | leaseExpiry i k rest hlist => exact .inl (by rw [State.expireLease_session]; rfl)
  | lockVisit p i => exact .inl (congrArg Session.generation (s.visitLock_session p i q))
  | barrierVisit p b => exact .inl (congrArg Session.generation (s.visitBarrier_session p b q))
  | _ => exact .inl rfl

theorem Event.generation {s t : State} {c : Instr} (h : Event s c t) (hc : c ≠ .deviceReset) (i : LockIndex) :
    (t.lock i).generation = (s.lock i).generation ∨ ∃ p, c = .retire p := by
  cases h with
  | served k p a hflight hlive =>
    by_cases hk : k = .retire
    · exact .inr ⟨p, by rw [hk]; rfl⟩
    · exact .inl ((OwnerStep.of_owner hflight hlive).generation hk i)
  | written _ p off v hwrite hreset hheld t h => rw [h.windowOnly]; exact .inl rfl
  | ticklRead p => unfold State.readTickl; split_ifs <;> exact .inl rfl
  | portReset p => rw [s.resetPort_frame]; exact .inl rfl
  | deviceReset => exact absurd rfl hc
  | waitExpiry j r k rest hlist =>
    obtain ⟨u, hsteps, hexpire⟩ | ⟨-, hexpire⟩ := State.expireWait_cases hlist
    · rw [hexpire]
      exact .inl (hsteps.evaluate.generation i)
    · rw [hexpire]
      exact .inl rfl
  | leaseExpiry j k rest hlist =>
    obtain ⟨u, hsteps, hexpire⟩ | ⟨-, hexpire⟩ := State.expireLease_cases hlist
    · rw [hexpire]
      exact .inl (hsteps.evaluate.generation i)
    · rw [hexpire]
      exact .inl rfl
  | keepaliveExpiry p k rest hlist =>
    refine .inl ?_
    obtain ⟨-, hexpire⟩ | ⟨-, hexpire⟩ := State.expireKeepalive_cases hlist
    · rw [hexpire, s.depart_lock]
    · rw [hexpire]
      rfl
  | lockVisit p j => exact .inl ((LockSteps.visitLock s p j).generation i)
  | barrierVisit p b => exact .inl (congrArg LockEntry.generation (s.visitBarrier_lock p b i))
  | finalStep p => rw [State.nextSweep_frame]; exact .inl rfl
  | _ => exact .inl rfl

theorem Event.phase {s t : State} {c : Instr} (h : Event s c t) (hc : c ≠ .deviceReset) (b : BarrierIndex) :
    (t.barrier b).phase = (s.barrier b).phase ∨ c = .barrierVisit ∨
      ∃ p, c = .arrive p ∨ c = .leave p ∨ c = .breakBarrier p := by
  cases h with
  | served k p a hflight hlive =>
    by_cases hk : k ≠ .arrive ∧ k ≠ .leave ∧ k ≠ .breakBarrier
    · exact .inl ((OwnerStep.of_owner hflight hlive).phase hk b)
    · refine .inr (.inr ⟨p, ?_⟩)
      have hone : k = .arrive ∨ k = .leave ∨ k = .breakBarrier := by tauto
      obtain rfl | rfl | rfl := hone
      · exact .inl rfl
      · exact .inr (.inl rfl)
      · exact .inr (.inr rfl)
  | written _ p off v hwrite hreset hheld t h => rw [h.windowOnly]; exact .inl rfl
  | ticklRead p => unfold State.readTickl; split_ifs <;> exact .inl rfl
  | portReset p => rw [s.resetPort_frame]; exact .inl rfl
  | deviceReset => exact absurd rfl hc
  | waitExpiry i r k rest hlist => exact .inl (by rw [State.expireWait_barrier]; rfl)
  | leaseExpiry i k rest hlist => exact .inl (by rw [State.expireLease_barrier]; rfl)
  | keepaliveExpiry p k rest hlist =>
    refine .inl ?_
    obtain ⟨-, hexpire⟩ | ⟨-, hexpire⟩ := State.expireKeepalive_cases hlist
    · rw [hexpire, s.depart_barrier]
    · rw [hexpire]
      rfl
  | lockVisit p i => exact .inl (congrArg Barrier.phase (s.visitLock_barrier p i b))
  | barrierVisit => exact .inr (.inl rfl)
  | finalStep p => rw [State.nextSweep_frame]; exact .inl rfl
  | _ => exact .inl rfl

theorem Event.nextTicket {s t : State} {c : Instr} (h : Event s c t) (hc : c ≠ .deviceReset) (q : Port) :
    (t.pool q).nextTicket = (s.pool q).nextTicket ∨ c = .acquire q ∨ c = .attach q := by
  cases h with
  | served k p a hflight hlive =>
    have hstep := OwnerStep.of_owner hflight hlive
    by_cases hq : q = p
    · subst hq
      by_cases hacquire : k = .acquire
      · exact .inr (.inl (by rw [hacquire]; rfl))
      · by_cases hattach : k = .attach
        · exact .inr (.inr (by rw [hattach]; rfl))
        · exact .inl (hstep.nextTicket (.inr hacquire) (.inr hattach))
    · exact .inl (hstep.nextTicket (.inl hq) (.inl hq))
  | written _ p off v hwrite hreset hheld t h => exact .inl (h.nextTicket q)
  | ticklRead p => unfold State.readTickl; split_ifs <;> exact .inl rfl
  | portReset p => exact .inl (s.resetPort_nextTicket p q)
  | deviceReset => exact absurd rfl hc
  | waitExpiry j r k rest hlist =>
    obtain ⟨u, hsteps, hexpire⟩ | ⟨-, hexpire⟩ := State.expireWait_cases hlist
    · rw [hexpire]
      exact .inl (hsteps.evaluate.pool q).2
    · rw [hexpire]
      exact .inl rfl
  | leaseExpiry j k rest hlist =>
    obtain ⟨u, hsteps, hexpire⟩ | ⟨-, hexpire⟩ := State.expireLease_cases hlist
    · rw [hexpire]
      exact .inl (hsteps.evaluate.pool q).2
    · rw [hexpire]
      exact .inl rfl
  | keepaliveExpiry p k rest hlist =>
    refine .inl ?_
    obtain ⟨-, hexpire⟩ | ⟨-, hexpire⟩ := State.expireKeepalive_cases hlist
    · rw [hexpire, s.depart_pool]
    · rw [hexpire]
      rfl
  | lockVisit p i => exact .inl ((LockSteps.visitLock s p i).pool q).2
  | barrierVisit p b => exact .inl (by simp [State.pool])
  | finalStep p => rw [State.nextSweep_frame]; exact .inl rfl
  | _ => exact .inl rfl

/-- R112, R132: the final step ends no session but the swept one. -/
theorem State.finalStep_attached {s : State} {p q : Port} (hlive : (s.reportSweepEnd p).nextSweep.attached q = true) :
    s.attached q = true := by
  rw [State.attached_eq, State.nextSweep_session, State.reportSweepEnd_session] at hlive
  split_ifs at hlive
  · exact absurd hlive (by simp)
  · rw [Session.afterSweepOf_state] at hlive
    split_ifs at hlive
    · exact absurd hlive (by simp)
    · exact hlive

theorem SweepQueueSound.finalStep_attached {s : State} (h : SweepQueueSound s) {p q : Port}
    (hengine : s.engine = .busy p .final) (hlive : s.attached q = true) :
    (s.reportSweepEnd p).nextSweep.attached q = true := by
  have hq : q ≠ p := (State.port_ne_of_attached hlive (h.swept_not_attached hengine))
  have hqueued : s.departureQueue.head? ≠ some q := fun hhead => by
    have hstate := h.queued_state (List.mem_of_head? hhead)
    simp [State.attached, hstate] at hlive
  rw [State.attached_eq, State.nextSweep_session, State.reportSweepEnd_departureQueue, if_neg hqueued,
    State.reportSweepEnd_session, Session.afterSweepOf_state, if_neg hq]
  exact hlive

/-- R112: what starts and what ends the session of port `q`, or leaves it. -/
theorem Event.attached {s t : State} {c : Instr} (h : Event s c t) (hc : c ≠ .deviceReset) (q : Port) :
    t.attached q = s.attached q ∨ (c = .attach q ∧ s.attached q = false) ∨
      (t.attached q = false ∧ (c = .detach q ∨ c = .keepaliveExpiry ∨ c = .portReset q ∨
        (∃ v, c = .softReset q v ∨ c = .registerWrite q 0x17 v) ∨
        (∃ n a, c = .forceDetach n ∧ (s.unit n).inFlight = some ⟨.forceDetach, a, .handed false⟩) ∨
        (c = .finalStep ∧ ¬ SweepQueueSound s))) := by
  cases h with
  | served k p a hflight hlive =>
    obtain hsame | ⟨rfl, rfl, hbefore⟩ | ⟨hgone, ⟨rfl, rfl⟩ | rfl⟩ := (OwnerStep.of_owner hflight hlive).attached q
    · exact .inl hsame
    · exact .inr (.inl ⟨rfl, hbefore⟩)
    · exact .inr (.inr ⟨hgone, .inl rfl⟩)
    · exact .inr (.inr ⟨hgone, .inr (.inr (.inr (.inr (.inl ⟨p, a, rfl, hflight⟩))))⟩)
  | written _ p off v hwrite hreset hheld t h =>
    obtain hsame | ⟨hgone, rfl, rfl⟩ := h.attached q
    · exact .inl hsame
    · exact .inr (.inr ⟨hgone, .inr (.inr (.inr (.inl ⟨v, busWrite_reset hwrite⟩)))⟩)
  | ticklRead p => unfold State.readTickl; split_ifs <;> exact .inl rfl
  | portReset p =>
    change (s.resetPort p).attached q = _ ∨ _ ∨ ((s.resetPort p).attached q = _ ∧ _)
    rw [State.resetPort_attached]
    by_cases hq : q = p
    · subst hq
      rw [if_pos rfl]
      exact .inr (.inr ⟨rfl, .inr (.inr (.inl rfl))⟩)
    · rw [if_neg hq]
      exact .inl rfl
  | deviceReset => exact absurd rfl hc
  | waitExpiry i r k rest hlist => exact .inl (by rw [State.expireWait_attached]; rfl)
  | leaseExpiry i k rest hlist => exact .inl (by rw [State.expireLease_attached]; rfl)
  | keepaliveExpiry p k rest hlist =>
    obtain ⟨-, hexpire⟩ | ⟨-, hexpire⟩ := State.expireKeepalive_cases hlist
    · rw [hexpire, State.depart_attached]
      by_cases hq : q = p
      · rw [if_pos hq]
        exact .inr (.inr ⟨rfl, .inr (.inl rfl)⟩)
      · rw [if_neg hq]
        exact .inl rfl
    · rw [hexpire]
      exact .inl rfl
  | lockVisit p i => exact .inl (s.visitLock_attached p i q)
  | barrierVisit p b => exact .inl (s.visitBarrier_attached p b q)
  | finalStep p hengine =>
    cases hafter : (s.reportSweepEnd p).nextSweep.attached q with
    | true => exact .inl (State.finalStep_attached hafter).symm
    | false =>
      cases hbefore : s.attached q with
      | false => exact .inl rfl
      | true =>
        refine .inr (.inr ⟨rfl, .inr (.inr (.inr (.inr (.inr ⟨rfl, fun hsweep => ?_⟩))))⟩)
        exact absurd (hsweep.finalStep_attached hengine hbefore) (by simp [hafter])
  | _ => exact .inl rfl

end Sys2Proof.Machine
end

section
/-! PROOFS. What only the named commands change. -/

open Sys2Proof Sys2Proof.Machine

/-- Settles O59: one lemma over the events for each part. A FORCE_DETACH that is served has passed check 3 (R152). -/
theorem onlyNamedCommandsChange : Obligations.OnlyNamedCommandsChange := by
  intro c s t hexec hc
  have h := Event.of_exec hexec
  refine ⟨h.supervisor hc, h.prescale hc, h.tick_eq hc, h.session_generation hc, h.generation hc, h.phase hc,
    h.nextTicket hc, fun q hbefore hafter => ?starts, fun q hsweep hbefore hafter => ?ends⟩
  case starts =>
    obtain hsame | ⟨hattach, -⟩ | ⟨hgone, -⟩ := h.attached hc q
    · rw [hafter, hbefore] at hsame
      exact absurd hsame (by decide)
    · exact hattach
    · rw [hafter] at hgone
      exact absurd hgone (by decide)
  case ends =>
    obtain hsame | ⟨-, hnot⟩ | ⟨-, hcause⟩ := h.attached hc q
    · rw [hafter, hbefore] at hsame
      exact absurd hsame (by decide)
    · rw [hbefore] at hnot
      exact absurd hnot (by decide)
    · obtain hdetach | hexpiry | hpin | hwrite | ⟨n, a, rfl, hflight⟩ | ⟨-, hnot⟩ := hcause
      · exact .inl hdetach
      · exact .inr (.inl hexpiry)
      · exact .inr (.inr (.inl hpin))
      · exact .inr (.inr (.inr (.inl hwrite)))
      · refine .inr (.inr (.inr (.inr ⟨n, rfl, fun hchecked => ?_⟩)))
        exact (hchecked n _ hflight).2 rfl
      · exact absurd hsweep hnot
end

section
/-! PROOFS. What is held in reset, in every step (R126, R163). -/

namespace Sys2Proof.Machine

/-! ### A port whose pin is low (R126) -/

/-- Port `q` is not ATTACHED and its window is at its port-reset values (R125). -/
def State.WindowAtReset (s : State) (q : Port) : Prop :=
  s.attached q = false ∧ s.unit q = .atReset ∧
  (s.interface q).args = ⟨0, 0, 0, 0⟩ ∧ (s.interface q).enables = 0 ∧ (s.interface q).snapshot = 0 ∧
  (s.session q).summary = 0 ∧ (s.session q).keepalive = 0 ∧ (s.pool q).cap = Config.resetCap

theorem heldPortsSound_iff (s : State) : HeldPortsSound s ↔ ∀ q, s.held q = true → s.WindowAtReset q := Iff.rfl

theorem PortKept.windowAtReset {q : Port} {s t : State} (h : PortKept q s t) (hs : s.WindowAtReset q) :
    t.WindowAtReset q := by
  obtain ⟨hinterface, hunit, hsession, hcap, -⟩ := h
  rw [State.WindowAtReset, State.attached_eq, hinterface, hunit, hsession, hcap]
  exact hs

theorem State.WindowAtReset.inFlight {s : State} {q : Port} (h : s.WindowAtReset q) : (s.unit q).inFlight = none := by
  obtain ⟨-, hunit, -⟩ := h
  rw [hunit]
  rfl

theorem State.reset_windowAtReset (q : Port) : State.reset.WindowAtReset q := by
  revert q
  unfold State.WindowAtReset
  decide

theorem State.resetPort_windowAtReset (s : State) (p : Port) : (s.resetPort p).WindowAtReset p := by
  obtain ⟨u, hdetached, hattached, ⟨⟨hinterface, -⟩, ⟨hunit, -⟩, ⟨hpool, -⟩, ⟨hsession, -⟩⟩, -⟩ :=
    PortWasReset.of_resetPort s p
  refine ⟨?_, hunit, by rw [hinterface], by rw [hinterface], by rw [hinterface], by rw [hsession], by rw [hsession],
    by rw [hpool]⟩
  rw [State.resetPort_attached, if_pos rfl]

theorem State.finalStep_windowAtReset {s : State} {p q : Port} (h : s.WindowAtReset q) :
    (s.reportSweepEnd p).nextSweep.WindowAtReset q := by
  obtain ⟨hattached, hunit, hargs, henables, hsnapshot, hsummary, hkeepalive, hcap⟩ := h
  have hframe := (s.reportSweepEnd p).nextSweep_frame
  have hafter : (s.reportSweepEnd p).nextSweep.attached q = false :=
    Bool.eq_false_iff.2 fun hlive => Bool.eq_false_iff.1 hattached (State.finalStep_attached hlive)
  have hsweep : ((s.session q).afterSweepOf p q).summary = 0 ∧ ((s.session q).afterSweepOf p q).keepalive = 0 := by
    have hstate : ¬ (s.session q).state = .attached := by simpa [State.attached] using hattached
    unfold Session.afterSweepOf
    rw [if_neg hstate]
    split_ifs <;> exact ⟨hsummary, hkeepalive⟩
  have hsession : ((s.reportSweepEnd p).nextSweep.session q).summary = 0 ∧
      ((s.reportSweepEnd p).nextSweep.session q).keepalive = 0 := by
    rw [State.nextSweep_session, State.reportSweepEnd_session]
    split_ifs <;> exact hsweep
  have hinterface : (s.reportSweepEnd p).nextSweep.interface q = s.interface q := by rw [hframe]; rfl
  refine ⟨hafter, by rw [hframe]; exact hunit, ?_, ?_, ?_, hsession.1, hsession.2, by rw [hframe]; exact hcap⟩
  · rw [hinterface]; exact hargs
  · rw [hinterface]; exact henables
  · rw [hinterface]; exact hsnapshot

theorem PortKept.of_expireWait {s : State} {i : LockIndex} {r : Requester} {k : Ticks} {rest : List Deadline}
    (hlist : s.deadlines = ⟨.wait i r, k, true⟩ :: rest) (q : Port) :
    PortKept q s (State.expireWait { s with deadlines := rest } i r) := by
  obtain ⟨u, hsteps, hexpire⟩ | ⟨-, hexpire⟩ := State.expireWait_cases hlist
  · rw [hexpire]
    exact .of_lockSteps hsteps.evaluate q
  · rw [hexpire]
    exact .refl q s

theorem PortKept.of_expireLease {s : State} {i : LockIndex} {k : Ticks} {rest : List Deadline}
    (hlist : s.deadlines = ⟨.lease i, k, true⟩ :: rest) (q : Port) :
    PortKept q s (State.expireLease { s with deadlines := rest } i) := by
  obtain ⟨u, hsteps, hexpire⟩ | ⟨-, hexpire⟩ := State.expireLease_cases hlist
  · rw [hexpire]
    exact .of_lockSteps hsteps.evaluate q
  · rw [hexpire]
    exact .refl q s

theorem PortKept.visitBarrier (s : State) (p : Port) (b : BarrierIndex) (q : Port) : PortKept q s (s.visitBarrier p b) :=
  ⟨by simp [State.interface], s.visitBarrier_unit p b q, s.visitBarrier_session p b q, by simp [State.pool],
    by simp [State.pool]⟩

/-- R126, R163: no cycle of a port that is held loads the snapshot. -/
theorem State.readTickl_windowAtReset {s : State} {p : Port} (hheld : s.held p = true) {q : Port} (h : s.WindowAtReset q) :
    (s.readTickl p).WindowAtReset q := by
  have hbus : s.takesBus p = false := by simp [State.takesBus, hheld]
  unfold State.readTickl
  rw [hbus, if_neg (by decide)]
  obtain ⟨hattached, hunit, hargs, henables, hsnapshot, hrest⟩ := h
  refine ⟨hattached, hunit, ?_⟩
  rw [State.setInterface_interface]
  split_ifs with hq
  · subst hq
    exact ⟨hargs, henables, hsnapshot, hrest⟩
  · exact ⟨hargs, henables, hsnapshot, hrest⟩

/-- R126: with RESETn high, a port whose pin is low takes no write, issues nothing and is not ATTACHED, so nothing reaches
its window; the pin's edge resets it. -/
theorem HeldPortsSound.event {s t : State} {c : Instr} (h : HeldPortsSound s) (hreset : s.resetLow = false)
    (hevent : Event s c t) : HeldPortsSound t := by
  rw [heldPortsSound_iff] at h ⊢
  have hbusy : ∀ p f, (s.unit p).inFlight = some f → ∀ q, s.held q = true → q ≠ p := by
    rintro p f hflight q hq rfl
    rw [(h q hq).inFlight] at hflight
    exact absurd hflight nofun
  intro q hq
  cases hevent with
  | unchanged => exact h q hq
  | refused k p a d hflight => exact (PortKept.setUnit s (hbusy p _ hflight q hq) _).windowAtReset (h q hq)
  | completed p k a r hflight => exact (PortKept.setUnit s (hbusy p _ hflight q hq) _).windowAtReset (h q hq)
  | served k p a hflight hlive =>
    have hstep := OwnerStep.of_owner hflight hlive
    replace hq : s.held q = true := (hstep.sameInputs.held q).symm.trans hq
    have hqp := hbusy p _ hflight q hq
    obtain hkept | ⟨-, hattached, -⟩ := hstep.portKept hqp
    · exact (hkept.trans (.setUnit _ hqp _)).windowAtReset (h q hq)
    · exact absurd hattached (Bool.eq_false_iff.1 (h q hq).1)
  | written _ p off v hwrite _ hheld t hwritten =>
    replace hq : s.held q = true := (hwritten.held q).symm.trans hq
    have hqp : q ≠ p := by
      rintro rfl
      exact Bool.eq_false_iff.1 hheld hq
    exact (PortKept.of_written hwritten hqp).windowAtReset (h q hq)
  | ticklRead p =>
    have hsame : (s.readTickl p).held q = s.held q := by
      unfold State.readTickl
      split_ifs <;> rfl
    rw [hsame] at hq
    by_cases hqp : q = p
    · exact State.readTickl_windowAtReset (hqp ▸ hq) (h q hq)
    · have hkept : PortKept q s (s.readTickl p) := by
        unfold State.readTickl
        split_ifs <;> exact .setInterface s hqp _
      exact hkept.windowAtReset (h q hq)
  | portReset p =>
    by_cases hqp : q = p
    · rw [hqp]
      exact s.resetPort_windowAtReset p
    · rw [State.setHeld_held_ne _ _ _ _ hqp, State.resetPort_held] at hq
      exact (PortKept.resetPort s hqp).windowAtReset (h q hq)
  | heldInReset p hlow => exact absurd hlow (Bool.eq_false_iff.1 hreset)
  | released p =>
    by_cases hqp : q = p
    · subst hqp
      simp at hq
    · rw [State.setHeld_held_ne _ _ _ _ hqp] at hq
      exact h q hq
  | deviceReset => exact State.reset_windowAtReset q
  | resetnRelease sup hlow => exact absurd hlow (Bool.eq_false_iff.1 hreset)
  | tick => exact h q hq
  | waitExpiry i r k rest hlist =>
    have hsame : (State.expireWait { s with deadlines := rest } i r).held q = s.held q := by simp [State.held]
    exact (PortKept.of_expireWait hlist q).windowAtReset (h q (hsame.symm.trans hq))
  | leaseExpiry i k rest hlist =>
    have hsame : (State.expireLease { s with deadlines := rest } i).held q = s.held q := by simp [State.held]
    exact (PortKept.of_expireLease hlist q).windowAtReset (h q (hsame.symm.trans hq))
  | keepaliveExpiry p k rest hlist =>
    obtain ⟨hlive, hexpire⟩ | ⟨-, hexpire⟩ := State.expireKeepalive_cases hlist
    · rw [hexpire] at hq ⊢
      rw [s.depart_held] at hq
      have hqp : q ≠ p := (State.port_ne_of_attached hlive (h q hq).1).symm
      exact (PortKept.depart s hqp .keepalive).windowAtReset (h q hq)
    · rw [hexpire] at hq ⊢
      exact h q hq
  | lockVisit p i =>
    have hsame : (s.visitLock p i).held q = s.held q := by simp [State.held]
    exact (PortKept.of_lockSteps (.visitLock s p i) q).windowAtReset (h q (hsame.symm.trans hq))
  | barrierVisit p b =>
    have hsame : (s.visitBarrier p b).held q = s.held q := by simp [State.held]
    exact (PortKept.visitBarrier s p b q).windowAtReset (h q (hsame.symm.trans hq))
  | finalStep p hengine =>
    have hsame : (s.reportSweepEnd p).nextSweep.held q = s.held q := by rw [State.nextSweep_frame]; rfl
    exact State.finalStep_windowAtReset (h q (hsame.symm.trans hq))

/-! ### While RESETn is low (R163) -/

theorem DeviceResetHeld.withPending {s : State} (h : DeviceResetHeld s) (rest : List Instr) :
    DeviceResetHeld { s with pending := rest } :=
  fun hreset => congrArg (fun u => { u with pending := rest }) (h hreset)

theorem DeviceResetHeld.windowAtReset {s : State} (h : DeviceResetHeld s) (hreset : s.resetLow = true) (q : Port) :
    s.WindowAtReset q := by
  rw [h hreset]
  exact State.reset_windowAtReset q

theorem DeviceResetHeld.busOut {s : State} (h : DeviceResetHeld s) (hreset : s.resetLow = true) (q : Port) :
    (s.interface q).busOut = 0 := by
  have hinterface : ∀ q, (State.reset.interface q).busOut = 0 := by decide
  rw [h hreset]
  exact hinterface q

theorem State.setInterface_self (s : State) (p : Port) : s.setInterface p (s.interface p) = s := by
  have hvector : s.interfaces.set p s.interfaces[p] = s.interfaces := by simp
  exact congrArg (fun v => { s with interfaces := v }) hvector

/-- R163: while RESETn is low no event does anything but move a PRSTn pin, reset the device again or release it. -/
theorem DeviceResetHeld.event_cases {s t : State} {c : Instr} (h : DeviceResetHeld s) (hreset : s.resetLow = true)
    (hevent : Event s c t) :
    t = { s with prstLow := t.prstLow } ∨ t = s.deviceReset ∨
      ∃ sup, t = { s with resetLow := false, supervisor := sup, tickLength := prescaleCycles s.prescale } := by
  have hidle : ∀ p f, (s.unit p).inFlight ≠ some f := by
    intro p f hflight
    rw [(h.windowAtReset hreset p).inFlight] at hflight
    exact absurd hflight nofun
  have hdeadlines : s.deadlines = [] := by rw [h hreset]; rfl
  have hengine : s.engine = .idle := by rw [h hreset]; rfl
  cases hevent with
  | unchanged => exact .inl rfl
  | refused k p a d hflight | completed p k a r hflight => exact absurd hflight (hidle p _)
  | served k p a hflight => exact absurd hflight (hidle p _)
  | written _ p off v hwrite hhigh => exact absurd hreset (Bool.eq_false_iff.1 hhigh)
  | ticklRead p =>
    have hbus : s.takesBus p = false := by simp [State.takesBus, hreset]
    have hword : s.readWord p 0x18 = 0 := by rw [State.readWord, hbus]; rfl
    have hsame : ({ s.interface p with busOut := 0 } : PortInterface) = s.interface p := by
      rw [← h.busOut hreset p]
    unfold State.readTickl
    rw [hbus, if_neg (by decide), hword, hsame, State.setInterface_self]
    exact .inl rfl
  | portReset p hhigh => exact absurd hreset (Bool.eq_false_iff.1 hhigh)
  | heldInReset | released => exact .inl rfl
  | deviceReset => exact .inr (.inl rfl)
  | resetnRelease sup => exact .inr (.inr ⟨sup, rfl⟩)
  | tick hhigh => exact absurd hreset (Bool.eq_false_iff.1 hhigh)
  | waitExpiry i r k rest hlist => exact absurd (hdeadlines.symm.trans hlist) nofun
  | leaseExpiry i k rest hlist => exact absurd (hdeadlines.symm.trans hlist) nofun
  | keepaliveExpiry p k rest hlist => exact absurd (hdeadlines.symm.trans hlist) nofun
  | lockVisit p i hbusy => exact absurd (hengine.symm.trans hbusy) nofun
  | barrierVisit p b hbusy => exact absurd (hengine.symm.trans hbusy) nofun
  | finalStep p hbusy => exact absurd (hengine.symm.trans hbusy) nofun

theorem DeviceResetHeld.deviceReset (s : State) : DeviceResetHeld s.deviceReset := fun _ => rfl

/-- RESETn goes low by its own edge only. -/
theorem Event.resetLow {s t : State} {c : Instr} (h : Event s c t) (hreset : s.resetLow = false) :
    t.resetLow = false ∨ t = s.deviceReset := by
  cases h with
  | served k p a hflight hlive =>
    obtain ⟨-, -, hsame, -⟩ := (OwnerStep.of_owner hflight hlive).sameInputs
    exact .inl (hsame.trans hreset)
  | written _ p off v hwrite _ hheld t h =>
    rw [h.windowOnly]
    exact .inl hreset
  | ticklRead p => unfold State.readTickl; split_ifs <;> exact .inl hreset
  | portReset p =>
    obtain ⟨-, -, hsame, -⟩ := SameInputs.resetPort s p
    exact .inl (hsame.trans hreset)
  | deviceReset => exact .inr rfl
  | resetnRelease => exact .inl rfl
  | keepaliveExpiry p => unfold State.expireKeepalive; split_ifs <;> simp [hreset]
  | finalStep p => rw [State.nextSweep_frame]; exact .inl hreset
  | waitExpiry | leaseExpiry | lockVisit | barrierVisit => simp [hreset]
  | _ => exact .inl hreset

theorem DeviceResetHeld.event {s t : State} {c : Instr} (h : DeviceResetHeld s) (hevent : Event s c t) :
    DeviceResetHeld t := by
  cases hreset : s.resetLow with
  | true =>
    obtain hpins | rfl | ⟨sup, rfl⟩ := h.event_cases hreset hevent
    · have hsame := h hreset
      intro _
      rw [hpins]
      exact congrArg (fun u => { u with prstLow := t.prstLow }) hsame
    · exact .deviceReset s
    · exact nofun
  | false =>
    obtain hhigh | rfl := hevent.resetLow hreset
    · exact fun hlow => absurd hlow (Bool.eq_false_iff.1 hhigh)
    · exact .deviceReset s

theorem HeldPortsSound.event_of_held {s t : State} {c : Instr} (h : HeldPortsSound s) (hheld : DeviceResetHeld s)
    (hevent : Event s c t) : HeldPortsSound t := by
  cases hreset : s.resetLow with
  | true =>
    intro q _
    have hwindow := hheld.windowAtReset hreset q
    obtain hpins | rfl | ⟨sup, rfl⟩ := hheld.event_cases hreset hevent
    · rw [hpins]
      exact hwindow
    · exact State.reset_windowAtReset q
    · exact hwindow
  | false => exact h.event hreset hevent

end Sys2Proof.Machine
end

section
/-! PROOFS. Every step keeps the conditions on inboxes, summaries, caps and on what is held in reset. -/

open Sys2Proof Sys2Proof.Machine

/-- Settles O8: the blocks keep the first conditions; what is held in reset is kept by every event, and while RESETn is low
there is no event but of the pins. -/
theorem portsAndResetsAreKept : Obligations.PortsAndResetsAreKept := by
  intro s t hstep
  refine ⟨fun hports hsweep => ?ports, fun hheld hreset => ?resets⟩
  case ports =>
    obtain ⟨rest, u, hblock, hhost⟩ := BlockStep.of_step hstep
    exact (PortsSound.blockStep (s := { s with pending := rest }) hports hsweep hblock).hostOnly hhost
  case resets =>
    obtain rfl | ⟨c, rest, hevent⟩ := Event.of_step hstep
    · exact ⟨hheld, hreset⟩
    · have hwithout := hreset.withPending rest
      exact ⟨HeldPortsSound.event_of_held (s := { s with pending := rest }) hheld hwithout hevent, hwithout.event hevent⟩
end

section
/-! PROOFS. The commands in flight in every step (R152): what is in flight was taken through the common checks, and only its
progress changes until it is gone. -/

namespace Sys2Proof.Machine

/-! ### A command in flight stays what it was -/

/-- From `s` to `t`, port `p` has no new command in flight: one that is there was there, and one its owner has not taken
was not taken before and has not lost its port's session. -/
def FlightKept (p : Port) (s t : State) : Prop :=
  ∀ f, (t.unit p).inFlight = some f → ∃ g, (s.unit p).inFlight = some g ∧ g.command = f.command ∧ g.args = f.args ∧
    (f.progress = .handed false → g.progress = .handed false ∧ (s.attached p = true → t.attached p = true))

theorem FlightKept.trans {p : Port} {s t u : State} (h : FlightKept p s t) (h' : FlightKept p t u) : FlightKept p s u := by
  intro f hf
  obtain ⟨g, hg, hcommand, hargs, hprogress⟩ := h' f hf
  obtain ⟨e, he, hcommand', hargs', hprogress'⟩ := h g hg
  refine ⟨e, he, hcommand'.trans hcommand, hargs'.trans hargs, fun hhanded => ?_⟩
  obtain ⟨hhanded', hlive⟩ := hprogress hhanded
  obtain ⟨hhanded'', hlive'⟩ := hprogress' hhanded'
  exact ⟨hhanded'', fun hs => hlive (hlive' hs)⟩

theorem FlightKept.of_eq {p : Port} {s t : State} (hunit : (t.unit p).inFlight = (s.unit p).inFlight)
    (hlive : s.attached p = true → t.attached p = true) : FlightKept p s t :=
  fun f hf => ⟨f, hunit ▸ hf, rfl, rfl, fun hhanded => ⟨hhanded, hlive⟩⟩

theorem FlightKept.of_none {p : Port} {s t : State} (h : (t.unit p).inFlight = none) : FlightKept p s t :=
  fun _ hf => absurd (h.symm.trans hf) nofun

theorem PortKept.flightKept {p : Port} {s t : State} (h : PortKept p s t) : FlightKept p s t := by
  obtain ⟨-, hunit, hsession, -, -⟩ := h
  exact .of_eq (by rw [hunit]) fun hlive => by rw [State.attached_eq, hsession]; exact hlive

/-- R156: the answer is progress of the command in flight. -/
theorem FlightKept.answer (s : State) (p q : Port) (a : Answer) : FlightKept q s (s.answer p a) := by
  by_cases hq : q = p
  · subst hq
    intro f hf
    rw [State.answer_unit, if_pos rfl] at hf
    obtain ⟨g, hg, rfl⟩ := Option.map_eq_some_iff.1 hf
    exact ⟨g, hg, rfl, rfl, nofun⟩
  · exact (PortKept.setUnit s hq _).flightKept

/-- R115: a departure marks the request its owner has not taken. -/
theorem FlightKept.depart (s : State) (p q : Port) (c : Cause) : FlightKept q s (s.depart p c) := by
  by_cases hq : q = p
  · subst hq
    intro f hf
    rw [s.depart_unit_self] at hf
    obtain ⟨hmarked, hother⟩ := MarkedDeparted.of_markDeparted (s.unit q)
    by_cases hhanded : ∃ k a d, (s.unit q).inFlight = some ⟨k, a, .handed d⟩
    · obtain ⟨k, a, d, hflight⟩ := hhanded
      rw [hmarked k a d hflight] at hf
      cases hf
      exact ⟨_, hflight, rfl, rfl, nofun⟩
    · push Not at hhanded
      rw [hother hhanded] at hf
      refine ⟨f, hf, rfl, rfl, fun hprogress => ?_⟩
      obtain ⟨k, a, progress⟩ := f
      subst hprogress
      exact absurd hf (hhanded k a false)
  · exact (PortKept.depart s hq c).flightKept

theorem FlightKept.resetPort (s : State) (p q : Port) : FlightKept q s (s.resetPort p) := by
  by_cases hq : q = p
  · subst hq
    exact .of_none (s.resetPort_windowAtReset q).inFlight
  · exact (PortKept.resetPort s hq).flightKept

theorem OwnerStep.flightKept {s t : State} {k : Command} {p : Port} (h : OwnerStep s k p t) (q : Port) :
    FlightKept q s t := by
  cases h with
  | lock t h => rw [LockTableOnly.of_lockMove h]; exact .of_eq rfl id
  | barrier r b t hlive h => exact (PortKept.of_barriersOnly (.of_barrierMove h) q).flightKept
  | attach hk hdetached =>
    refine .of_eq rfl fun hlive => ?_
    rw [State.attached_eq, State.startSession_session]
    split_ifs
    · rfl
    · exact hlive
  | depart n c => exact .depart s n q c
  | _ => exact .of_eq rfl id

/-! ### A command that is taken (R149, R152) -/

/-- R152: a command that passes is in range, the supervisor's where it is the supervisor's alone, and an ATTACHED port's
unless it is ATTACH. -/
theorem State.commonChecks_eq_ok {s : State} {p : Port} {code : BitVec 8} {args : Args} {k : Command}
    (h : s.commonChecks p code args = .ok k) :
    argsInRange k args = true ∧ (k.supervisorOnly = true → p = s.supervisor) ∧ (k ≠ .attach → s.attached p = true) := by
  unfold State.commonChecks at h
  cases hcode : Command.ofCode code with
  | none =>
    rw [hcode] at h
    exact absurd h nofun
  | some c =>
    rw [hcode] at h
    dsimp only at h
    split_ifs at h with hattached hsupervisor hrange
    cases h
    refine ⟨by simpa using hrange, fun honly => ?_, fun hk => ?_⟩
    · by_contra hp
      exact hsupervisor ⟨honly, hp⟩
    · by_contra hlive
      exact hattached ⟨hk, by simpa using hlive⟩

/-- What a take leaves in flight at its port. -/
theorem State.takeCommand_inFlight {s : State} {p : Port} {v : Word} {f : InFlight}
    (h : ((s.takeCommand p v).unit p).inFlight = some f) :
    argsInRange f.command f.args = true ∧ (f.command.supervisorOnly = true → p = s.supervisor) ∧
      (f.command ≠ .attach → s.attached p = true) := by
  rw [State.takeCommand_eq, State.setUnit_unit_self] at h
  cases hchecks : s.commonChecks p (v.extractLsb' 0 8) (s.interface p).args with
  | ok k =>
    rw [hchecks] at h
    cases h
    exact State.commonChecks_eq_ok hchecks
  | error r =>
    rw [hchecks] at h
    exact absurd h nofun

/-- A write takes a command, or puts none in flight. -/
theorem Written.flightKept {s t : State} {p : Port} {off : Offset} (h : Written s p off t) :
    (∃ v, t = s.takeCommand p v) ∨ ∀ q, FlightKept q s t := by
  cases h with
  | taken v => exact .inl ⟨v, rfl⟩
  | ignored | stored | popped | prescale => exact .inr fun q => .of_eq rfl id
  | overran | cleared =>
    refine .inr fun q => .of_eq ?_ id
    rw [State.setUnit_unit]
    split_ifs with hq <;> simp [hq]
  | summary v => exact .inr fun q => .of_eq rfl fun hlive => (s.writeDsum_attached p q v).trans hlive
  | interval v =>
    refine .inr fun q => .of_eq ?_ fun hlive => (s.writeKalive_attached p q v).trans hlive
    rw [State.writeKalive_frame]
    rfl
  | cap v =>
    rw [State.writeWcap_frame]
    exact .inr fun q => .of_eq rfl id
  | reset => exact .inr fun q => .resetPort s p q

/-- Every event takes a command, ends a sweep, or puts no command in flight. -/
theorem Event.flightKept {s t : State} {c : Instr} (h : Event s c t) :
    (∃ p v, t = s.takeCommand p v) ∨ (∃ p, s.engine = .busy p .final ∧ t = (s.reportSweepEnd p).nextSweep) ∨
      ∀ q, FlightKept q s t := by
  cases h with
  | refused k p => exact .inr (.inr fun q => .answer s p q _)
  | served k p a hflight hlive =>
    exact .inr (.inr fun q => ((OwnerStep.of_owner hflight hlive).flightKept q).trans (.answer _ p q _))
  | written _ p off v hwrite hreset hheld t h => exact h.flightKept.imp (fun ⟨v, hv⟩ => ⟨p, v, hv⟩) .inr
  | completed p =>
    refine .inr (.inr fun q => ?_)
    by_cases hq : q = p
    · subst hq
      exact .of_none (by rw [State.setUnit_unit_self]; rfl)
    · exact (PortKept.setUnit s hq _).flightKept
  | ticklRead p =>
    unfold State.readTickl
    split_ifs <;> exact .inr (.inr fun q => .of_eq rfl id)
  | portReset p => exact .inr (.inr fun q => FlightKept.resetPort s p q)
  | deviceReset => exact .inr (.inr fun q => .of_none (State.reset_windowAtReset q).inFlight)
  | waitExpiry i r k rest hlist => exact .inr (.inr fun q => (PortKept.of_expireWait hlist q).flightKept)
  | leaseExpiry i k rest hlist => exact .inr (.inr fun q => (PortKept.of_expireLease hlist q).flightKept)
  | keepaliveExpiry p k rest hlist =>
    obtain ⟨-, hexpire⟩ | ⟨-, hexpire⟩ := State.expireKeepalive_cases hlist
    · rw [hexpire]
      exact .inr (.inr fun q => .depart s p q _)
    · rw [hexpire]
      exact .inr (.inr fun q => .of_eq rfl id)
  | lockVisit p i => exact .inr (.inr fun q => (PortKept.of_lockSteps (.visitLock s p i) q).flightKept)
  | barrierVisit p b => exact .inr (.inr fun q => (PortKept.visitBarrier s p b q).flightKept)
  | finalStep p hengine => exact .inr (.inl ⟨p, hengine, rfl⟩)
  | _ => exact .inr (.inr fun q => .of_eq rfl id)

/-! ### The two conditions -/

theorem RequestsChecked.of_flightKept {s t : State} (h : RequestsChecked s) (hkept : ∀ q, FlightKept q s t)
    (hsupervisor : t.supervisor = s.supervisor) : RequestsChecked t := by
  intro q f hf
  obtain ⟨g, hg, hcommand, hargs, -⟩ := hkept q f hf
  rw [← hcommand, ← hargs, hsupervisor]
  exact h q g hg

theorem RequestsChecked.takeCommand {s : State} (h : RequestsChecked s) (p : Port) (v : Word) :
    RequestsChecked (s.takeCommand p v) := by
  have hsupervisor : (s.takeCommand p v).supervisor = s.supervisor := by
    rw [State.takeCommand_eq, State.renewKeepalive_eq]
    rfl
  intro q f hf
  rw [hsupervisor]
  by_cases hq : q = p
  · subst hq
    obtain ⟨hrange, honly, -⟩ := State.takeCommand_inFlight hf
    exact ⟨hrange, honly⟩
  · rw [State.takeCommand_eq, State.setUnit_unit_ne _ _ _ _ hq, State.renewKeepalive_eq] at hf
    exact h q f hf

theorem RequestsChecked.of_idle {s : State} (h : ∀ q, (s.unit q).inFlight = none) : RequestsChecked s :=
  fun q _ hf => absurd ((h q).symm.trans hf) nofun

theorem RequestsChecked.event {s t : State} {c : Instr} (h : RequestsChecked s) (hheld : DeviceResetHeld s)
    (hevent : Event s c t) : RequestsChecked t := by
  obtain ⟨p, v, rfl⟩ | ⟨p, -, rfl⟩ | hkept := hevent.flightKept
  · exact h.takeCommand p v
  · rw [State.nextSweep_frame]
    exact h
  · obtain hsupervisor | ⟨-, rfl⟩ | ⟨-, -, hreset⟩ := hevent.supervisor_cases
    · exact h.of_flightKept hkept hsupervisor
    · exact .of_idle fun q => (State.reset_windowAtReset q).inFlight
    · refine .of_idle fun q => ?_
      by_contra hflight
      obtain ⟨f, hf⟩ := Option.ne_none_iff_exists'.1 hflight
      obtain ⟨g, hg, -⟩ := hkept q f hf
      exact absurd ((hheld.windowAtReset hreset q).inFlight.symm.trans hg) nofun

theorem RequestsAttached.of_flightKept {s t : State} (h : RequestsAttached s) (hkept : ∀ q, FlightKept q s t) :
    RequestsAttached t := by
  intro q k a hf hk
  obtain ⟨⟨k', a', progress⟩, hg, rfl, rfl, hprogress⟩ := hkept q _ hf
  obtain ⟨rfl, hlive⟩ := hprogress rfl
  exact hlive (h q k' a' hg hk)

theorem RequestsAttached.takeCommand {s : State} (h : RequestsAttached s) (p : Port) (v : Word) :
    RequestsAttached (s.takeCommand p v) := by
  have hattached : ∀ q, (s.takeCommand p v).attached q = s.attached q := by
    intro q
    rw [State.takeCommand_eq, State.renewKeepalive_eq]
    rfl
  intro q k a hf hk
  rw [hattached]
  by_cases hq : q = p
  · subst hq
    obtain ⟨-, -, hlive⟩ := State.takeCommand_inFlight hf
    exact hlive hk
  · rw [State.takeCommand_eq, State.setUnit_unit_ne _ _ _ _ hq, State.renewKeepalive_eq] at hf
    exact h q k a hf hk

theorem RequestsAttached.event {s t : State} {c : Instr} (h : RequestsAttached s) (hsweep : SweepQueueSound s)
    (hevent : Event s c t) : RequestsAttached t := by
  obtain ⟨p, v, rfl⟩ | ⟨p, hengine, rfl⟩ | hkept := hevent.flightKept
  · exact h.takeCommand p v
  · intro q k a hf hk
    refine hsweep.finalStep_attached hengine (h q k a ?_ hk)
    rw [State.nextSweep_frame] at hf
    exact hf
  · exact h.of_flightKept hkept

end Sys2Proof.Machine
end

section
/-! PROOFS. Every step keeps that a command in flight passed the common checks. -/

open Sys2Proof Sys2Proof.Machine

/-- Settles O6: every event keeps what is in flight, but for a take, which runs the checks. -/
theorem requestsStayChecked : Obligations.RequestsStayChecked := by
  intro s t hstep
  obtain rfl | ⟨c, rest, hevent⟩ := Event.of_step hstep
  · exact ⟨fun hchecked _ => hchecked, fun hlive _ => hlive⟩
  · exact ⟨fun hchecked hheld =>
        RequestsChecked.event (s := { s with pending := rest }) hchecked (hheld.withPending rest) hevent,
      fun hlive hsweep => RequestsAttached.event (s := { s with pending := rest }) hlive hsweep hevent⟩
end

section
/-! PROOFS. What device reset leaves (R10, R60, R74, R77, R127). -/

namespace Sys2Proof.Machine

theorem State.reset_records : State.reset.records = [] :=
  List.flatMap_eq_nil_iff.2 fun i _ => by rw [State.reset_lock]; rfl

theorem LockTableSound.reset : LockTableSound State.reset := by
  refine ⟨by unfold FreeListSound; decide, fun i => ?_⟩
  rw [State.reset_lock]
  refine ⟨⟨fun _ => rfl, .nil⟩, ⟨fun hqueue => absurd rfl hqueue, nofun, .nil⟩, fun _ => ⟨rfl, rfl, rfl, rfl, rfl, rfl⟩,
    fun hfixed => ⟨if_pos hfixed, rfl, rfl⟩⟩

theorem DeadlinesOrdered.reset : DeadlinesOrdered State.reset := ⟨.nil, nofun⟩

theorem DeadlinesMatch.reset : DeadlinesMatch State.reset := by
  refine ⟨.nil, nofun, fun i hlimits => ?_, fun p hlimits => ?_⟩
  · obtain ⟨hholder, -⟩ := hlimits
    rw [State.reset_lock] at hholder
    exact absurd rfl hholder
  · obtain ⟨hlive, -⟩ := hlimits
    have hdetached : ∀ q, State.reset.attached q = false := by decide
    rw [hdetached] at hlive
    exact absurd hlive nofun

theorem PoolCounts.reset : PoolCounts State.reset := by
  have hpool : ∀ p, (State.reset.pool p).count = 0 := by decide
  unfold PoolCounts
  rw [State.reset_records]
  exact ⟨rfl, hpool⟩

theorem TicketsDistinct.reset : TicketsDistinct State.reset := by
  unfold TicketsDistinct
  rw [State.reset_records]
  exact fun _ => .nil

theorem InboxRoom.reset : InboxRoom State.reset := by unfold InboxRoom; decide

end Sys2Proof.Machine
end

section
/-! PROOFS. Device reset leaves the values the spec gives and meets every invariant. -/

open Sys2Proof Sys2Proof.Machine

/-- Settles O14: the values by evaluation, the invariants by the lemma of each. -/
theorem resetIsSound : Obligations.ResetIsSound := by
  refine ⟨State.reset_lock, by decide, rfl, rfl, rfl, rfl, rfl, rfl, State.reset_barrier, by decide, .reset, .reset,
    .of_idle fun q => (State.reset_windowAtReset q).inFlight, fun q _ _ hflight => ?_, .reset, .reset,
    by unfold HeldPortsSound; decide, fun _ => rfl, .reset, .reset, .reset, .reset, .reset, .reset⟩
  exact absurd ((State.reset_windowAtReset q).inFlight.symm.trans hflight) nofun
end

section
/-! PROOFS. The lock entries and the free-lock list in every step (R2, R4, R6, R8, R28, R29). -/

namespace Sys2Proof.Machine

/-! ### What the events outside the lock table leave of it -/

/-- From `s` to `t`, the lock entries, the free-lock list, the free records and the counts of the pool have not changed. -/
def SameLocks (s t : State) : Prop :=
  t.locks = s.locks ∧ t.freeLocks = s.freeLocks ∧ t.freeRecords = s.freeRecords ∧ ∀ p, (t.pool p).count = (s.pool p).count

theorem SameLocks.refl (s : State) : SameLocks s s := ⟨rfl, rfl, rfl, fun _ => rfl⟩

theorem SameLocks.lock {s t : State} (h : SameLocks s t) (i : LockIndex) : t.lock i = s.lock i := by
  obtain ⟨hlocks, -⟩ := h
  unfold State.lock
  rw [hlocks]

theorem SameLocks.startSession (s : State) (p : Port) : SameLocks s (s.startSession p) := by
  refine ⟨rfl, rfl, rfl, fun q => ?_⟩
  refine (congrArg PoolPort.count (State.setPool_pool _ p _ q)).trans ?_
  split_ifs with hq
  · rw [hq]
  · rfl

theorem SameLocks.depart (s : State) (p : Port) (c : Cause) : SameLocks s (s.depart p c) :=
  ⟨by simp, by simp, by simp, fun q => by rw [State.depart_pool]⟩

theorem SameLocks.resetWindow (s : State) (p : Port) : SameLocks s (s.resetWindow p) := by
  refine ⟨rfl, rfl, rfl, fun q => ?_⟩
  rw [State.resetWindow_pool]
  split_ifs with hq
  · rw [hq]
  · rfl

theorem SameLocks.trans {s t u : State} (h : SameLocks s t) (h' : SameLocks t u) : SameLocks s u := by
  obtain ⟨hlocks, hfree, hrecords, hcount⟩ := h
  obtain ⟨hlocks', hfree', hrecords', hcount'⟩ := h'
  exact ⟨hlocks'.trans hlocks, hfree'.trans hfree, hrecords'.trans hrecords, fun p => (hcount' p).trans (hcount p)⟩

theorem SameLocks.resetPort (s : State) (p : Port) : SameLocks s (s.resetPort p) := by
  unfold State.resetPort
  split_ifs
  · exact (SameLocks.depart s p _).trans (.resetWindow _ p)
  · exact .resetWindow s p

/-- An event moves the lock table, or a sweep visits a lock, or the device is reset, or the lock table does not change. -/
theorem BlockStep.lockTable_cases {s t : State} (h : BlockStep s t) :
    (∃ k p, LockMove s p k t) ∨
      (∃ p i, s.engine = .busy p (.locks i) ∧ t = { s.visitLock p i with engine := .busy p (Position.locks i).next }) ∨
      t = s.deviceReset ∨ SameLocks s t := by
  cases h with
  | lock k p t h => exact .inl ⟨k, p, h⟩
  | lockVisit p i hengine => exact .inr (.inl ⟨p, i, hengine, rfl⟩)
  | deviceReset => exact .inr (.inr (.inl rfl))
  | barrier r b k t hlive h => rw [BarriersOnly.of_barrierMove h]; exact .inr (.inr (.inr (.refl s)))
  | attach p => exact .inr (.inr (.inr (.startSession s p)))
  | depart p c => exact .inr (.inr (.inr (.depart s p c)))
  | portReset p => exact .inr (.inr (.inr (.resetPort s p)))
  | interval p v => rw [State.writeKalive_frame]; exact .inr (.inr (.inr (.refl s)))
  | cap p v =>
    refine .inr (.inr (.inr ⟨by rw [State.writeWcap_frame], by rw [State.writeWcap_frame],
      by rw [State.writeWcap_frame], fun q => ?_⟩))
    by_cases hv : v.toNat ≤ Config.waiterRecords
    · rw [State.writeWcap_pool s p q v hv]
      split_ifs with hq
      · rw [hq]
      · rfl
    · rw [State.writeWcap, if_neg hv]
  | renewKeepalive p => rw [State.renewKeepalive_eq]; exact .inr (.inr (.inr (.refl s)))
  | barrierVisit p b =>
    exact .inr (.inr (.inr ⟨by simp, by simp, by simp, fun q => by simp [State.pool]⟩))
  | finalStep p => rw [State.nextSweep_frame]; exact .inr (.inr (.inr (.refl s)))
  | _ => exact .inr (.inr (.inr (.refl s)))

/-! ### One entry -/

/-- R28, R29 at lock `i`: what every record of the queue is, wherever its requester stands. -/
def LockEntry.WaitersSound (e : LockEntry) (i : LockIndex) : Prop :=
  (∀ w ∈ e.queue, w.lock = i ∧ e.heldBy w.requester = false ∧ w.reservations = reservationsNeeded e w.mode) ∧
  (e.queue.map (·.requester)).Nodup

/-- What every step at lock `i` keeps of its entry; that a queue stands only behind a holder (R6) is restored by
evaluation. -/
def LockEntry.StepSound (e : LockEntry) (i : LockIndex) : Prop :=
  e.HoldersSound ∧ e.WaitersSound i ∧ e.FreeSound ∧ e.FixedSound i

/-- All that is kept of the entry of lock `i`. -/
def LockEntry.Sound (e : LockEntry) (i : LockIndex) : Prop :=
  e.HoldersSound ∧ e.QueueSound i ∧ e.FreeSound ∧ e.FixedSound i

theorem LockEntry.sound_iff (e : LockEntry) (i : LockIndex) :
    e.Sound i ↔ (e.queue ≠ [] → e.noHolder = false) ∧ e.StepSound i := by
  unfold LockEntry.Sound LockEntry.StepSound LockEntry.QueueSound LockEntry.WaitersSound
  tauto

theorem LockEntry.not_heldBy_iff (e : LockEntry) (r : Requester) :
    e.heldBy r = false ↔ e.exclusiveHolder ≠ some r ∧ r ∉ e.sharedHolders := by
  rw [← Bool.not_eq_true, LockEntry.heldBy_iff]
  tauto

theorem LockEntry.noHolder_iff (e : LockEntry) : e.noHolder = true ↔ e.exclusiveHolder = none ∧ e.sharedHolders = [] := by
  simp [LockEntry.noHolder]

/-- A lock that is held or waited for is allocated (R8). -/
theorem LockEntry.FreeSound.allocated {e : LockEntry} (h : e.FreeSound) (huse : e.noHolder = false ∨ e.queue ≠ []) :
    e.state = .allocated := by
  by_contra hstate
  obtain ⟨hholder, hqueue, -⟩ := h (by cases hs : e.state <;> simp_all)
  obtain huse | huse := huse
  · rw [hholder] at huse
    exact absurd huse nofun
  · exact huse hqueue

theorem LockEntry.FreeSound.of_allocated {e : LockEntry} (h : e.state = .allocated) : e.FreeSound :=
  fun hfree => absurd (h.symm.trans hfree) nofun

theorem LockEntry.WaitersSound.of_nil {e : LockEntry} (h : e.queue = []) (i : LockIndex) : e.WaitersSound i := by
  unfold LockEntry.WaitersSound
  rw [h]
  exact ⟨nofun, .nil⟩

/-- Some of the records, none of them a holder's now, under the same lease period. -/
theorem LockEntry.WaitersSound.of_sublist {e f : LockEntry} {i : LockIndex} (h : e.WaitersSound i)
    (hqueue : f.queue.Sublist e.queue) (hperiod : f.leasePeriod = e.leasePeriod)
    (hheld : ∀ w ∈ f.queue, e.heldBy w.requester = false → f.heldBy w.requester = false) : f.WaitersSound i := by
  obtain ⟨hrecords, hnodup⟩ := h
  refine ⟨fun w hw => ?_, (hqueue.map _).nodup hnodup⟩
  obtain ⟨hlock, hnot, hreserved⟩ := hrecords w (hqueue.subset hw)
  exact ⟨hlock, hheld w hw hnot, by rw [hreserved, reservationsNeeded_eq, reservationsNeeded_eq, hperiod]⟩

theorem LockEntry.FixedSound.of_eq {e f : LockEntry} {i : LockIndex} (h : e.FixedSound i) (hstate : f.state = e.state)
    (hgeneration : f.generation = e.generation) (hallocator : f.allocator = e.allocator ∨ f.allocator = none) :
    f.FixedSound i := by
  intro hfixed
  obtain ⟨hs, hg, ha⟩ := h hfixed
  exact ⟨hstate.trans hs, hgeneration.trans hg, hallocator.elim (·.trans ha) id⟩

/-- Records leave, holders leave, the mark is rewritten: what is left of a lock in use. -/
theorem LockEntry.StepSound.shrink {e f : LockEntry} {i : LockIndex} (h : e.StepSound i)
    (huse : e.noHolder = false ∨ e.queue ≠ [])
    (hsame : f.state = e.state ∧ f.generation = e.generation ∧ f.leasePeriod = e.leasePeriod ∧ f.allocator = e.allocator)
    (hholders : f.HoldersSound) (hqueue : f.queue.Sublist e.queue)
    (hheld : ∀ w ∈ f.queue, e.heldBy w.requester = false → f.heldBy w.requester = false) : f.StepSound i := by
  obtain ⟨-, hwaiters, hfree, hfixed⟩ := h
  obtain ⟨hstate, hgeneration, hperiod, hallocator⟩ := hsame
  exact ⟨hholders, hwaiters.of_sublist hqueue hperiod hheld, .of_allocated (hstate.trans (hfree.allocated huse)),
    hfixed.of_eq hstate hgeneration (.inl hallocator)⟩

theorem nodup_insertRequester {r : Requester} {l : List Requester} (h : l.Nodup) : (insertRequester r l).Nodup := by
  unfold insertRequester
  by_cases hr : r ∈ l
  · rwa [if_pos (List.contains_iff_mem.2 hr)]
  · rw [if_neg (mt List.contains_iff_mem.1 hr)]
    exact List.nodup_append.2 ⟨h, List.nodup_singleton r, fun x hx y hy hxy => hr (List.mem_singleton.1 hy ▸ hxy ▸ hx)⟩

theorem LockEntry.HoldersSound.grantTo {e : LockEntry} (h : e.HoldersSound) {m : Mode} (haccepts : e.Accepts m)
    (r : Requester) :
    (e.grantTo r m).HoldersSound := by
  obtain ⟨-, hnodup⟩ := h
  obtain ⟨hnone, hempty⟩ := haccepts
  cases m with
  | exclusive => exact ⟨fun _ => hempty rfl, hnodup⟩
  | shared => exact ⟨fun hholder => absurd hnone hholder, nodup_insertRequester hnodup⟩

theorem LockEntry.grantTo_same (e : LockEntry) (r : Requester) (m : Mode) :
    (e.grantTo r m).queue = e.queue ∧ (e.grantTo r m).state = e.state ∧ (e.grantTo r m).generation = e.generation ∧
      (e.grantTo r m).leasePeriod = e.leasePeriod ∧ (e.grantTo r m).allocator = e.allocator := by
  cases m <;> exact ⟨rfl, rfl, rfl, rfl, rfl⟩

theorem LockEntry.grantTo_not_heldBy {e : LockEntry} {r q : Requester} (hq : q ≠ r) (h : e.heldBy q = false) (m : Mode) :
    (e.grantTo r m).heldBy q = false := by
  rw [LockEntry.not_heldBy_iff] at h ⊢
  obtain ⟨hexclusive, hshared⟩ := h
  cases m with
  | exclusive => exact ⟨fun heq => hq (Option.some.inj heq).symm, hshared⟩
  | shared => exact ⟨hexclusive, fun hmem => ((mem_insertRequester r q _).1 hmem).elim hshared hq⟩

/-- Every step at the lock keeps its entry sound. -/
theorem LockStep.stepSound {i : LockIndex} {s t : State} (h : LockStep i s t) (hsound : (s.lock i).StepSound i) :
    (t.lock i).StepSound i := by
  have hwhole := hsound
  obtain ⟨hholders, ⟨hrecords, hnodup⟩, hfree, hfixed⟩ := hsound
  obtain ⟨halone, hshared⟩ := hholders
  cases h with
  | discard w hmem =>
    rw [State.discardRecord_lock, if_pos rfl]
    exact hwhole.shrink (.inr (List.ne_nil_of_mem hmem)) ⟨rfl, rfl, rfl, rfl⟩ ⟨halone, hshared⟩ List.erase_sublist
      fun _ _ => id
  | grant w rest hqueue hlive haccepts =>
    rw [State.grantHead_lock_self hqueue]
    let e : LockEntry := { s.lock i with queue := rest }
    obtain ⟨hkeeps, hsame⟩ := e.grantTo_same w.requester w.mode
    have huse : (s.lock i).queue ≠ [] := by simp [hqueue]
    refine hwhole.shrink (.inr huse) hsame (LockEntry.HoldersSound.grantTo (e := e) ⟨halone, hshared⟩ haccepts _) ?_ ?_
    · rw [hkeeps, hqueue]
      exact List.sublist_cons_self w rest
    · intro x hx hnot
      rw [hkeeps] at hx
      rw [hqueue, List.map_cons, List.nodup_cons] at hnodup
      have hmem : x.requester ∈ rest.map (·.requester) := List.mem_map_of_mem hx
      have hne : x.requester ≠ w.requester := fun heq => hnodup.1 (heq ▸ hmem)
      exact LockEntry.grantTo_not_heldBy (e := e) hne hnot _
  | expire w hmem =>
    rw [State.expireRecord_lock]
    exact hwhole.shrink (.inr (List.ne_nil_of_mem hmem)) ⟨rfl, rfl, rfl, rfl⟩ ⟨halone, hshared⟩ List.erase_sublist
      fun _ _ => id
  | revoke r k rest hlist hholder =>
    rw [State.revoke_lock]
    refine hwhole.shrink (.inl (by simp [LockEntry.noHolder, hholder])) ⟨rfl, rfl, rfl, rfl⟩
      ⟨fun hsome => absurd rfl hsome, hshared⟩ (.refl _) fun w hw hnot => ?_
    rw [LockEntry.not_heldBy_iff] at hnot ⊢
    exact ⟨nofun, hnot.2⟩
  | endHold r shared mark hholder hshared' =>
    rw [State.endHold_lock]
    refine hwhole.shrink (.inl (by simp [LockEntry.noHolder, hholder])) ⟨rfl, rfl, rfl, rfl⟩
      ⟨fun hsome => absurd rfl hsome, ?_⟩ (.refl _) fun w hw hnot => ?_
    · obtain rfl | rfl := hshared'
      · exact hshared
      · exact List.nodup_singleton r
    · rw [LockEntry.not_heldBy_iff] at hnot ⊢
      refine ⟨nofun, ?_⟩
      obtain rfl | rfl := hshared'
      · exact hnot.2
      · rw [List.mem_singleton]
        exact fun heq => hnot.1 (heq ▸ hholder)
  | narrow shared allocator hsub hallocator =>
    rw [State.setLock_lock_self]
    refine ⟨⟨fun hsome => ?_, hsub.nodup hshared⟩, ?_, fun hstate => ?_, hfixed.of_eq rfl rfl hallocator⟩
    · exact List.sublist_nil.1 (halone hsome ▸ hsub)
    · refine LockEntry.WaitersSound.of_sublist ⟨hrecords, hnodup⟩ (.refl _) rfl fun w hw hnot => ?_
      rw [LockEntry.not_heldBy_iff] at hnot ⊢
      exact ⟨hnot.1, fun hmem => hnot.2 (hsub.subset hmem)⟩
    · obtain ⟨hnone, hqueue, hmark, hkind, hperiod, hnobody⟩ := hfree hstate
      rw [LockEntry.noHolder_iff] at hnone
      obtain ⟨hexclusive, hempty⟩ := hnone
      refine ⟨?_, hqueue, hmark, hkind, hperiod, hallocator.elim (·.trans hnobody) id⟩
      exact (LockEntry.noHolder_iff _).2 ⟨hexclusive, List.sublist_nil.1 (hempty ▸ hsub)⟩

theorem LockStep.state {i : LockIndex} {s t : State} (h : LockStep i s t) : (t.lock i).state = (s.lock i).state := by
  cases h with
  | discard w => rw [State.discardRecord_lock, if_pos rfl]
  | grant w rest hqueue =>
    rw [State.grantHead_lock_self hqueue]
    obtain ⟨-, hstate, -⟩ := ({ s.lock i with queue := rest } : LockEntry).grantTo_same w.requester w.mode
    exact hstate
  | expire => rw [State.expireRecord_lock]
  | revoke => rw [State.revoke_lock]
  | endHold => rw [State.endHold_lock]
  | narrow => rw [State.setLock_lock_self]

theorem LockSteps.stepSound {i : LockIndex} {s t : State} (h : LockSteps i s t) (hsound : (s.lock i).StepSound i) :
    (t.lock i).StepSound i ∧ (t.lock i).state = (s.lock i).state :=
  h.keeps (P := fun u => (u.lock i).StepSound i ∧ (u.lock i).state = (s.lock i).state) ⟨hsound, rfl⟩
    fun _ _ hstep ⟨hu, hstate⟩ => ⟨hstep.stepSound hu, hstep.state.trans hstate⟩

/-- R39: where evaluation stops, a queue stands behind a holder. -/
theorem State.Settled.noHolder {s : State} {i : LockIndex} (h : s.Settled i) (hqueue : (s.lock i).queue ≠ []) :
    (s.lock i).noHolder = false := by
  obtain hempty | ⟨w, -, -, -, hblocked⟩ := h
  · exact absurd hempty hqueue
  · rw [← Bool.not_eq_true, LockEntry.noHolder_iff]
    exact fun ⟨hnone, hshared⟩ => hblocked ⟨hnone, fun _ => hshared⟩

theorem LockSteps.evaluate_sound {i : LockIndex} {s u : State} (h : LockSteps i s u) (hsound : (s.lock i).Sound i) :
    ((u.evaluate i).lock i).Sound i ∧ ((u.evaluate i).lock i).state = (s.lock i).state := by
  rw [LockEntry.sound_iff] at hsound ⊢
  obtain ⟨hkept, hstate⟩ := h.evaluate.stepSound hsound.2
  exact ⟨⟨(u.evaluate_settled i).noHolder, hkept⟩, hstate⟩

/-! ### The table -/

theorem LockTableSound.entry {s : State} (h : LockTableSound s) (i : LockIndex) : (s.lock i).Sound i := h.2 i

/-- One entry rewritten without a change of its state. -/
theorem LockTableSound.of_lock {s t : State} (h : LockTableSound s) {i : LockIndex}
    (hother : ∀ j, j ≠ i → t.lock j = s.lock j)
    (hfree : t.freeLocks = s.freeLocks) (hstate : (t.lock i).state = (s.lock i).state) (hsound : (t.lock i).Sound i) :
    LockTableSound t := by
  obtain ⟨⟨hnodup, hlist⟩, hentries⟩ := h
  have hstates : ∀ j, (t.lock j).state = (s.lock j).state := fun j => by
    by_cases hj : j = i
    · rw [hj, hstate]
    · rw [hother j hj]
  refine ⟨⟨hfree ▸ hnodup, fun j => by rw [hfree, hstates, hlist]⟩, fun j => ?_⟩
  by_cases hj : j = i
  · rw [hj]
    exact hsound
  · rw [hother j hj]
    exact hentries j

theorem LockTableSound.of_onlyLock {s t : State} (h : LockTableSound s) {i : LockIndex} {x : LockEntry}
    (honly : OnlyLock i x s t)
    (hfree : t.freeLocks = s.freeLocks) (hstate : x.state = (s.lock i).state) (hsound : x.Sound i) : LockTableSound t := by
  obtain ⟨rfl, hother⟩ := honly
  exact h.of_lock hother hfree hstate hsound

theorem LockTableSound.of_sameLocks {s t : State} (h : LockTableSound s) (hsame : SameLocks s t) : LockTableSound t := by
  have hlock := hsame.lock
  obtain ⟨-, hfree, -⟩ := hsame
  exact h.of_lock (i := 0) (fun j _ => hlock j) hfree (by rw [hlock]) (by rw [hlock]; exact h.entry 0)

theorem LockTableSound.evaluate {s u : State} (h : LockTableSound s) {i : LockIndex} (hsteps : LockSteps i s u) :
    LockTableSound (u.evaluate i) := by
  obtain ⟨hsound, hstate⟩ := hsteps.evaluate_sound (h.entry i)
  refine h.of_lock (fun j hj => hsteps.evaluate.lock_ne hj) ?_ hstate hsound
  rw [QueuesOnly.of_lockSteps hsteps.evaluate]

/-- A lock nobody holds or waits for. -/
theorem LockEntry.Sound.of_unused {e : LockEntry} {i : LockIndex} (hholder : e.noHolder = true) (hqueue : e.queue = [])
    (hfree : e.FreeSound) (hfixed : e.FixedSound i) : e.Sound i := by
  rw [LockEntry.noHolder_iff] at hholder
  obtain ⟨hexclusive, hshared⟩ := hholder
  refine (LockEntry.sound_iff _ _).2 ⟨fun hne => absurd hqueue hne, ⟨fun _ => hshared, ?_⟩, .of_nil hqueue i, hfree, hfixed⟩
  rw [hshared]
  exact .nil

theorem LockEntry.not_inUse_iff (e : LockEntry) : ¬ e.inUse = true ↔ e.noHolder = true ∧ e.queue = [] := by
  rw [LockEntry.inUse_iff, LockEntry.noHolder_iff]
  tauto

theorem LockTableSound.allocate {s : State} (h : LockTableSound s) {i : LockIndex} {rest : List LockIndex}
    (hhead : s.freeLocks = i :: rest) (p : Port) (k : Kind) (lease : Word) :
    LockTableSound (s.allocate p i k lease rest) := by
  obtain ⟨⟨hnodup, hlist⟩, hentries⟩ := h
  obtain ⟨-, -, hfree, hfixed⟩ := hentries i
  rw [hhead, List.nodup_cons] at hnodup
  have hstate : (s.lock i).state = .free := (hlist i).1 (hhead ▸ List.mem_cons_self)
  obtain ⟨hholder, hqueue, -⟩ := hfree hstate
  obtain ⟨hself, hother⟩ : OnlyLock i
    { s.lock i with state := .allocated, kind := k, leasePeriod := lease, allocator := some p }
    s (s.allocate p i k lease rest) := .of_locks_eq rfl
  refine ⟨⟨hnodup.2, fun j => ?_⟩, fun j => ?_⟩
  · by_cases hj : j = i
    · rw [hj, hself]
      exact ⟨fun hmem => absurd hmem hnodup.1, nofun⟩
    · rw [hother j hj, ← hlist j, hhead, List.mem_cons]
      exact ⟨.inr, fun hmem => hmem.resolve_left hj⟩
  · by_cases hj : j = i
    · rw [hj, hself]
      refine LockEntry.Sound.of_unused hholder hqueue (.of_allocated rfl) fun hlow => ?_
      exact absurd (hstate.symm.trans (hfixed hlow).1) nofun
    · rw [hother j hj]
      exact hentries j

theorem LockTableSound.retire {s : State} (h : LockTableSound s) {i : LockIndex} (hallocated : (s.lock i).state = .allocated)
    (hindex : ¬ i.val < 8) (hunused : ¬ (s.lock i).inUse = true) : LockTableSound (s.retire i) := by
  obtain ⟨⟨hnodup, hlist⟩, hentries⟩ := h
  obtain ⟨hholder, hqueue⟩ := (LockEntry.not_inUse_iff _).1 hunused
  obtain ⟨hself, hother⟩ : OnlyLock i (s.lock i).retired s (s.retire i) := .of_locks_eq rfl
  have hnot : i ∉ s.freeLocks := fun hmem => absurd (hallocated.symm.trans ((hlist i).1 hmem)) nofun
  refine ⟨⟨?_, fun j => ?_⟩, fun j => ?_⟩
  · refine List.nodup_append.2 ⟨hnodup, List.nodup_singleton i, fun x hx y hy hxy => ?_⟩
    rw [hxy, List.mem_singleton.1 hy] at hx
    exact hnot hx
  · rw [show (s.retire i).freeLocks = s.freeLocks ++ [i] from rfl, List.mem_append, List.mem_singleton]
    by_cases hj : j = i
    · rw [hj, hself]
      exact ⟨fun _ => rfl, fun _ => .inr rfl⟩
    · rw [hother j hj, ← hlist j]
      exact ⟨fun hmem => hmem.resolve_right hj, .inl⟩
  · by_cases hj : j = i
    · rw [hj, hself]
      exact LockEntry.Sound.of_unused hholder hqueue (fun _ => ⟨hholder, hqueue, rfl, rfl, rfl, rfl⟩)
        fun hlow => absurd hlow hindex
    · rw [hother j hj]
      exact hentries j

/-- R31: a lock that was allocated with an empty queue, and is granted. -/
theorem LockEntry.Sound.grantTo {e : LockEntry} {i : LockIndex} (h : e.Sound i) (hallocated : e.state = .allocated)
    (hqueue : e.queue = []) {m : Mode} (haccepts : e.Accepts m) (r : Requester) : (e.grantTo r m).Sound i := by
  obtain ⟨hholders, -, -, hfixed⟩ := h
  obtain ⟨hkeeps, hstate, hgeneration, -, hallocator⟩ := e.grantTo_same r m
  have hempty := hkeeps.trans hqueue
  exact (LockEntry.sound_iff _ _).2 ⟨fun hne => absurd hempty hne, hholders.grantTo haccepts r, .of_nil hempty i,
    .of_allocated (hstate.trans hallocated), hfixed.of_eq hstate hgeneration (.inl hallocator)⟩

/-- R34: a request that must wait joins a queue behind a holder. -/
theorem LockEntry.Sound.enqueue {e : LockEntry} {w : WaiterRecord} (h : e.Sound w.lock) (hallocated : e.state = .allocated)
    (hheld : e.heldBy w.requester = false) (hwaits : ∀ x ∈ e.queue, x.requester ≠ w.requester)
    (hwait : ¬(e.queue = [] ∧ e.Accepts w.mode)) (hreserved : w.reservations = reservationsNeeded e w.mode) :
    ({ e with queue := e.queue ++ [w] } : LockEntry).Sound w.lock := by
  obtain ⟨hbehind, hholders, ⟨hrecords, hnodup⟩, -, hfixed⟩ := (LockEntry.sound_iff _ _).1 h
  refine (LockEntry.sound_iff _ _).2 ⟨fun _ => ?_, hholders, ⟨fun x hx => ?_, ?_⟩, .of_allocated hallocated, hfixed⟩
  · by_cases hqueue : e.queue = []
    · change e.noHolder = false
      rw [← Bool.not_eq_true, LockEntry.noHolder_iff]
      exact fun ⟨hnone, hshared⟩ => hwait ⟨hqueue, hnone, fun _ => hshared⟩
    · exact hbehind hqueue
  · obtain hx | hx := List.mem_append.1 hx
    · exact hrecords x hx
    · rw [List.mem_singleton.1 hx]
      exact ⟨rfl, hheld, hreserved⟩
  · change ((e.queue ++ [w]).map (·.requester)).Nodup
    rw [List.map_append, List.nodup_append]
    refine ⟨hnodup, List.nodup_singleton _, fun a ha b hb hab => ?_⟩
    obtain ⟨x, hx, rfl⟩ := List.mem_map.1 ha
    rw [List.map_singleton, List.mem_singleton] at hb
    exact hwaits x hx (hab.trans hb)

theorem LockTableSound.lockMove {s t : State} (h : LockTableSound s) (hchecked : RequestsChecked s) {k : Command} {p : Port}
    (hmove : LockMove s p k t) : LockTableSound t := by
  cases hmove with
  | allocate i k lease rest hlive hhead => exact h.allocate hhead p k lease
  | retire i hallocated hindex hunused => exact h.retire hallocated hindex hunused
  | define a hflight hunused =>
    obtain ⟨hrange, -⟩ := hchecked p _ hflight
    obtain ⟨hholder, hqueue⟩ := (LockEntry.not_inUse_iff _).1 hunused
    obtain ⟨-, -, -, hfixed⟩ := h.entry a.fixedIndex
    obtain ⟨hallocated, -⟩ := hfixed (fixedIndex_lt_of_argsInRange hrange)
    refine h.of_onlyLock (.of_locks_eq rfl) rfl ?_ (LockEntry.Sound.of_unused ?_ ?_ (.of_allocated ?_) (hfixed.of_eq ?_ ?_ ?_))
    · rfl
    · exact hholder
    · exact hqueue
    · exact hallocated
    · rfl
    · rfl
    · exact .inl rfl
  | grant r hh m hlive hpass hqueue haccepts hlease =>
    obtain ⟨⟨-, hallocated⟩, -⟩ := hpass
    obtain ⟨-, hstate, -⟩ := (s.lock hh.index).grantTo_same r m
    exact h.of_onlyLock (.of_locks_eq rfl) rfl hstate ((h.entry hh.index).grantTo hallocated hqueue haccepts r)
  | grantLease r hh m hlive hpass hqueue haccepts hlease =>
    obtain ⟨⟨-, hallocated⟩, -⟩ := hpass
    obtain ⟨-, hstate, -⟩ := (s.lock hh.index).grantTo_same r m
    exact h.of_onlyLock (.of_locks_eq rfl) rfl hstate ((h.entry hh.index).grantTo hallocated hqueue haccepts r)
  | wait r hh m limit hport hlive hpass hwait =>
    obtain ⟨⟨-, hallocated⟩, -, hexclusive, hshared, hwaits⟩ := hpass
    let w : WaiterRecord := ⟨r, hh.index, m, s.nextTicket r.port, reservationsNeeded (s.lock hh.index) m⟩
    have hsound : ({ s.lock hh.index with queue := (s.lock hh.index).queue ++ [w] } : LockEntry).Sound hh.index :=
      LockEntry.Sound.enqueue (w := w) (h.entry hh.index) hallocated ((LockEntry.not_heldBy_iff _ _).2 ⟨hexclusive, hshared⟩)
        hwaits hwait rfl
    refine h.of_onlyLock (.of_locks_eq rfl) rfl ?_ hsound
    rfl
  | renew => exact h
  | evaluated k i u hsteps => exact h.evaluate hsteps

/-- R136: the visit to a lock where the swept port neither holds nor waits touches its allocator at most. -/
theorem State.clearLock_lock_of_unused {s : State} {p : Port} {i : LockIndex} (h : ¬ (s.lock i).holdsOrWaits p = true) :
    (s.clearLock p i).lock i =
      { s.lock i with allocator := if (s.lock i).allocator = some p then none else (s.lock i).allocator } := by
  rw [LockEntry.holdsOrWaits_iff] at h
  push Not at h
  obtain ⟨hqueue, hexclusive, hshared⟩ := h
  have hwaiters : ((s.lock i).queue.filter fun w => w.requester.port != p) = (s.lock i).queue :=
    List.filter_eq_self.2 fun w hw => by simpa using List.filter_eq_nil_iff.1 hqueue w hw
  have hholders : ((s.lock i).sharedHolders.filter fun r => r.port != p) = (s.lock i).sharedHolders :=
    List.filter_eq_self.2 fun r hr => by simpa using hshared r hr
  rw [State.clearLock_lock_self, hwaiters, LockEntry.sweptOf_of_not_exclusive (by simpa using hexclusive), hholders]

theorem LockTableSound.visitLock {s : State} (h : LockTableSound s) (p : Port) (i : LockIndex) :
    LockTableSound (s.visitLock p i) := by
  rw [State.visitLock_eq]
  by_cases huse : (s.lock i).holdsOrWaits p = true
  · rw [if_pos huse]
    exact h.evaluate (.clearLock s p i)
  · rw [if_neg huse]
    obtain ⟨hbehind, hsound⟩ := (LockEntry.sound_iff _ _).1 (h.entry i)
    obtain ⟨hkept, hstate⟩ := (LockSteps.clearLock s p i).stepSound hsound
    refine h.of_lock (fun j hj => s.clearLock_lock_ne p hj) ?_ hstate ((LockEntry.sound_iff _ _).2 ⟨?_, hkept⟩)
    · rw [queuesOnly_clearLock s p i]
    · rw [State.clearLock_lock_of_unused huse]
      exact hbehind

theorem LockTableSound.blockStep {s t : State} (h : LockTableSound s) (hchecked : RequestsChecked s)
    (hstep : BlockStep s t) :
    LockTableSound t := by
  obtain ⟨k, p, hmove⟩ | ⟨p, i, -, rfl⟩ | rfl | hsame := hstep.lockTable_cases
  · exact h.lockMove hchecked hmove
  · exact h.visitLock p i
  · exact LockTableSound.reset
  · exact h.of_sameLocks hsame

theorem LockTableSound.hostOnly {u t : State} (h : LockTableSound u) (hhost : HostOnly u t) : LockTableSound t := by
  rw [hhost]
  exact h

end Sys2Proof.Machine
end

section
/-! PROOFS. Every step keeps the conditions on the lock entries and the free-lock list. -/

open Sys2Proof Sys2Proof.Machine

/-- Settles O7: every step at a lock keeps its entry's other conditions, and evaluation restores that a queue stands only
behind a holder. -/
theorem lockTableIsKept : Obligations.LockTableIsKept := by
  intro s t htable hchecked hstep
  obtain ⟨rest, u, hblock, hhost⟩ := BlockStep.of_step hstep
  exact (LockTableSound.blockStep (s := { s with pending := rest }) htable hchecked hblock).hostOnly hhost
end

section
/-! PROOFS. The counts of the waiter pool and the tickets in every step (R21, R22, R27): each step takes one record,
frees one
or leaves the records alone. -/

namespace Sys2Proof.Machine

/-! ### The records in use, as the locks' queues -/

theorem State.records_of_queues {s t : State} (h : ∀ j, (t.lock j).queue = (s.lock j).queue) : t.records = s.records := by
  unfold State.records
  simp only [h]

/-- The records in use are those of lock `i` and those of the other locks. -/
theorem State.records_perm {s t : State} (i : LockIndex) (hother : ∀ j, j ≠ i → t.lock j = s.lock j) :
    ∃ l, s.records.Perm ((s.lock i).queue ++ l) ∧ t.records.Perm ((t.lock i).queue ++ l) := by
  have hsplit : (List.finRange 64).Perm (i :: (List.finRange 64).erase i) := List.perm_cons_erase (List.mem_finRange i)
  refine ⟨((List.finRange 64).erase i).flatMap fun j => (s.lock j).queue, ?_, ?_⟩
  · exact hsplit.flatMap_right _
  · have hrest : (((List.finRange 64).erase i).flatMap fun j => (t.lock j).queue) =
        ((List.finRange 64).erase i).flatMap fun j => (s.lock j).queue := by
      refine List.flatMap_congr fun j hj => ?_
      rw [hother j ((List.nodup_finRange 64).mem_erase_iff.1 hj).1]
    rw [← hrest]
    exact hsplit.flatMap_right _

theorem State.records_of_erase {s t : State} {i : LockIndex} {w : WaiterRecord} (hmem : w ∈ (s.lock i).queue)
    (hother : ∀ j, j ≠ i → t.lock j = s.lock j) (hqueue : (t.lock i).queue = (s.lock i).queue.erase w) :
    s.records.Perm (w :: t.records) := by
  obtain ⟨l, hs, ht⟩ := State.records_perm i hother
  have hhead : ((s.lock i).queue ++ l).Perm (w :: ((s.lock i).queue.erase w ++ l)) :=
    (List.perm_cons_erase hmem).append_right l
  rw [hqueue] at ht
  exact hs.trans (hhead.trans (ht.symm.cons w))

theorem State.records_of_append {s t : State} {i : LockIndex} {w : WaiterRecord}
    (hother : ∀ j, j ≠ i → t.lock j = s.lock j) (hqueue : (t.lock i).queue = (s.lock i).queue ++ [w]) :
    t.records.Perm (w :: s.records) := by
  obtain ⟨l, hs, ht⟩ := State.records_perm i hother
  rw [hqueue, List.append_assoc] at ht
  exact ht.trans (List.perm_middle.trans (hs.symm.cons w))

/-! ### The accounts -/

/-- The counts of the pool and the distinctness of the tickets. -/
def PoolSound (s : State) : Prop := PoolCounts s ∧ TicketsDistinct s

theorem PoolSound.of_same {s t : State} (h : PoolSound s) (hrecords : t.records = s.records)
    (hfree : t.freeRecords = s.freeRecords) (hcount : ∀ p, (t.pool p).count = (s.pool p).count) : PoolSound t := by
  unfold PoolSound PoolCounts TicketsDistinct at h ⊢
  simp only [hrecords, hfree, hcount]
  exact h

/-- A record is freed (R25). -/
theorem PoolSound.of_freed {s t : State} (h : PoolSound s) {w : WaiterRecord} (hrecords : s.records.Perm (w :: t.records))
    (hfree : t.freeRecords = s.freeRecords + 1)
    (hcount : ∀ p, (t.pool p).count = if p = w.requester.port then (s.pool p).count - 1 else (s.pool p).count) :
    PoolSound t := by
  obtain ⟨⟨htotal, hcounts⟩, htickets⟩ := h
  have hlength := hrecords.length_eq
  have hport : ∀ p, (s.records.filter fun x => x.requester.port == p).Perm
      (if w.requester.port = p then w :: t.records.filter fun x => x.requester.port == p
        else t.records.filter fun x => x.requester.port == p) := fun p => by
    have hfilter := hrecords.filter fun x => x.requester.port == p
    simpa only [List.filter_cons, beq_iff_eq] using hfilter
  refine ⟨⟨?_, fun p => ?_⟩, fun p => ?_⟩
  · rw [List.length_cons] at hlength
    omega
  · have hp := (hport p).length_eq
    rw [hcount, hcounts p]
    by_cases hw : p = w.requester.port
    · rw [if_pos hw.symm, List.length_cons] at hp
      rw [if_pos hw]
      omega
    · rw [if_neg (Ne.symm hw)] at hp
      rw [if_neg hw]
      exact hp
  · have hnodup := ((hport p).map (·.ticket)).nodup_iff.1 (htickets p)
    split_ifs at hnodup
    · exact (List.nodup_cons.1 hnodup).2
    · exact hnodup

/-- A record is taken with a ticket no record of its port carries (R24, R26). -/
theorem PoolSound.of_taken {s t : State} (h : PoolSound s) {w : WaiterRecord} (hrecords : t.records.Perm (w :: s.records))
    (hsome : s.freeRecords ≠ 0) (hfree : t.freeRecords = s.freeRecords - 1)
    (hcount : ∀ p, (t.pool p).count = if p = w.requester.port then (s.pool p).count + 1 else (s.pool p).count)
    (hticket : w.ticket ∉ (s.records.filter fun x => x.requester.port == w.requester.port).map (·.ticket)) : PoolSound t := by
  obtain ⟨⟨htotal, hcounts⟩, htickets⟩ := h
  have hlength := hrecords.length_eq
  have hport : ∀ p, (t.records.filter fun x => x.requester.port == p).Perm
      (if w.requester.port = p then w :: s.records.filter fun x => x.requester.port == p
        else s.records.filter fun x => x.requester.port == p) := fun p => by
    have hfilter := hrecords.filter fun x => x.requester.port == p
    simpa only [List.filter_cons, beq_iff_eq] using hfilter
  refine ⟨⟨?_, fun p => ?_⟩, fun p => ?_⟩
  · rw [List.length_cons] at hlength
    omega
  · have hp := (hport p).length_eq
    rw [hcount, hcounts p]
    by_cases hw : p = w.requester.port
    · rw [if_pos hw.symm, List.length_cons] at hp
      rw [if_pos hw, hp]
    · rw [if_neg (Ne.symm hw)] at hp
      rw [if_neg hw, hp]
  · refine ((hport p).map (·.ticket)).nodup_iff.2 ?_
    by_cases hw : w.requester.port = p
    · subst hw
      rw [if_pos rfl]
      exact List.nodup_cons.2 ⟨hticket, htickets _⟩
    · rw [if_neg hw]
      exact htickets p

/-! ### Every step -/

theorem PoolSound.lockStep {i : LockIndex} {s t : State} (h : PoolSound s) (hstep : LockStep i s t) : PoolSound t := by
  have hother := fun j (hj : j ≠ i) => hstep.lock_ne hj
  have hcount : ∀ (w : WaiterRecord) (p : Port), ((s.freeRecord i w).pool p).count =
      if p = w.requester.port then (s.pool p).count - 1 else (s.pool p).count := fun w p => by
    rw [State.freeRecord_pool]
    split_ifs <;> rfl
  have hqueues : (t.lock i).queue = (s.lock i).queue → t.records = s.records := fun hqueue =>
    State.records_of_queues fun j => by
      by_cases hj : j = i
      · rw [hj, hqueue]
      · rw [hother j hj]
  cases hstep with
  | discard w hmem =>
    refine h.of_freed (State.records_of_erase hmem hother ?_) ?_ fun p => ?_
    · rw [State.discardRecord_lock, if_pos rfl]
    · rw [State.discardRecord, State.dropReservations_freeRecords]
      rfl
    · rw [State.discardRecord_pool, hcount]
  | grant w rest hqueue =>
    refine h.of_freed (State.records_of_erase (hqueue ▸ List.mem_cons_self) hother ?_) ?_ fun p => ?_
    · rw [State.grantHead_lock, if_pos rfl]
      exact (LockEntry.grantTo_same _ _ _).1
    · unfold State.grantHead
      dsimp only
      split_ifs <;> simp [State.freeRecord]
    · rw [State.grantHead_pool, hcount]
  | expire w hmem =>
    refine h.of_freed (State.records_of_erase hmem hother ?_) ?_ fun p => ?_
    · rw [State.expireRecord_lock]
    · rw [State.expireRecord, State.dropReservations_freeRecords, State.deliverReserved_freeRecords]
      rfl
    · rw [State.expireRecord_pool, hcount]
  | revoke r k rest =>
    refine h.of_same (hqueues ?_) ?_ fun p => ?_
    · rw [State.revoke_lock]
    · rw [State.revoke, State.deliverReserved_freeRecords]
      rfl
    · rw [State.revoke, State.deliverReserved_pool]
      rfl
  | endHold r shared mark =>
    refine h.of_same (hqueues ?_) ?_ fun p => ?_
    · rw [State.endHold_lock]
    · rw [State.endHold, State.endLease_freeRecords]
      rfl
    · rw [State.endHold, State.endLease_pool]
      rfl
  | narrow =>
    refine h.of_same (hqueues ?_) rfl fun p => rfl
    rw [State.setLock_lock_self]

theorem PoolSound.lockSteps {i : LockIndex} {s t : State} (h : PoolSound s) (hsteps : LockSteps i s t) : PoolSound t :=
  hsteps.keeps h fun _ _ hstep hu => hu.lockStep hstep

/-- One entry is rewritten and keeps its queue, and the pool stays. -/
theorem PoolSound.of_onlyLock {s t : State} (h : PoolSound s) {i : LockIndex} {x : LockEntry} (honly : OnlyLock i x s t)
    (hqueue : x.queue = (s.lock i).queue) (hfree : t.freeRecords = s.freeRecords)
    (hcount : ∀ p, (t.pool p).count = (s.pool p).count) : PoolSound t := by
  refine h.of_same (State.records_of_queues fun j => ?_) hfree hcount
  by_cases hj : j = i
  · rw [hj, honly.1, hqueue]
  · rw [honly.2 j hj]

theorem State.withWaiter_lock (s : State) (w : WaiterRecord) (limit : Word) :
    OnlyLock w.lock { s.lock w.lock with queue := (s.lock w.lock).queue ++ [w] } s (s.withWaiter w limit) :=
  .of_locks_eq rfl

theorem State.recordRefusal_none {s : State} {p : Port} (h : s.recordRefusal p = none) :
    (s.pool p).count < (s.pool p).cap ∧ s.freeRecords ≠ 0 := by
  unfold State.recordRefusal at h
  split_ifs at h with hcap hpool
  exact ⟨not_le.1 hcap, hpool⟩

theorem PoolSound.wait {s : State} (h : PoolSound s) {w : WaiterRecord} (hsome : s.freeRecords ≠ 0)
    (hticket : w.ticket = s.nextTicket w.requester.port) (limit : Word) : PoolSound (s.withWaiter w limit) := by
  obtain ⟨hself, hother⟩ := s.withWaiter_lock w limit
  have hbound : (s.records.filter fun x => x.requester.port == w.requester.port).length ≤ 24 := by
    have hfilter := s.records.length_filter_le fun x => x.requester.port == w.requester.port
    obtain ⟨⟨htotal, -⟩, -⟩ := id h
    rw [Config.waiterRecords] at htotal
    omega
  obtain ⟨-, -, -, hfresh, -⟩ := State.nextTicket_spec hbound
  rw [← hticket, State.liveTickets_eq] at hfresh
  refine h.of_taken (State.records_of_append hother (by rw [hself])) hsome rfl (fun p => ?_) hfresh
  rw [State.withWaiter_pool]
  split_ifs <;> rfl

theorem PoolSound.lockMove {s t : State} (h : PoolSound s) {k : Command} {p : Port} (hmove : LockMove s p k t) :
    PoolSound t := by
  cases hmove with
  | wait r hh m limit hport hlive hpass hwait hlimit hrecord =>
    exact h.wait (State.recordRefusal_none hrecord).2 rfl limit
  | renew => exact h
  | evaluated k i u hsteps => exact h.lockSteps hsteps.evaluate
  | grant r hh m | grantLease r hh m =>
    exact h.of_onlyLock (.of_locks_eq rfl) (LockEntry.grantTo_same _ r m).1 rfl fun _ => rfl
  | allocate | retire | define =>
    refine h.of_onlyLock (.of_locks_eq rfl) ?_ rfl fun _ => rfl
    rfl

theorem PoolSound.blockStep {s t : State} (h : PoolSound s) (hstep : BlockStep s t) : PoolSound t := by
  obtain ⟨k, p, hmove⟩ | ⟨p, i, -, rfl⟩ | rfl | hsame := hstep.lockTable_cases
  · exact h.lockMove hmove
  · have hvisited : PoolSound (s.visitLock p i) := h.lockSteps (.visitLock s p i)
    exact hvisited
  · exact ⟨PoolCounts.reset, TicketsDistinct.reset⟩
  · have hlock := hsame.lock
    obtain ⟨-, -, hrecords, hcount⟩ := hsame
    exact h.of_same (State.records_of_queues fun j => by rw [hlock]) hrecords hcount

theorem PoolSound.hostOnly {u t : State} (h : PoolSound u) (hhost : HostOnly u t) : PoolSound t := by
  rw [hhost]
  exact h

end Sys2Proof.Machine
end

section
/-! PROOFS. Every step keeps the counts of the waiter pool and the distinctness of tickets. -/

open Sys2Proof Sys2Proof.Machine

/-- Settles O12: a step frees a record, takes one with a ticket that `State.nextTicket_spec` says is free, or keeps them. -/
theorem waiterPoolIsKept : Obligations.WaiterPoolIsKept := fun _ _ hcounts htickets hstep =>
  kept_of_step (P := PoolSound) (fun _ _ h => h) (fun _ _ hhost h => h.hostOnly hhost) (fun _ _ hblock h => h.blockStep hblock)
    hstep ⟨hcounts, htickets⟩
end

section
/-! PROOFS. The order of the deadline list in every step (R55, R56): an event takes entries out, places one with a
distance of
1 to 65 535, or is a tick. -/

namespace Sys2Proof.Machine

/-! ### What the steps make of the list -/

/-- An entry is placed among the others, which keep their order. -/
theorem placeDeadline_perm (now : Ticks) (d : Deadline) (l : List Deadline) : (placeDeadline now d l).Perm (d :: l) := by
  induction l with
  | nil => exact .refl _
  | cons x xs ih =>
    rw [placeDeadline]
    split_ifs
    · exact (ih.cons x).trans (.swap d x xs)
    · exact .refl _

theorem mem_placeDeadline (now : Ticks) (d x : Deadline) (l : List Deadline) :
    x ∈ placeDeadline now d l ↔ x = d ∨ x ∈ l := by
  rw [(placeDeadline_perm now d l).mem_iff, List.mem_cons]

theorem State.freeRecord_deadlines (s : State) (i : LockIndex) (w : WaiterRecord) :
    (s.freeRecord i w).deadlines = s.deadlines.filter fun d => d.object != .wait i w.requester := rfl

theorem State.discardRecord_deadlines (s : State) (i : LockIndex) (w : WaiterRecord) :
    (s.discardRecord i w).deadlines = s.deadlines.filter fun d => d.object != .wait i w.requester := by
  rw [State.discardRecord, State.dropReservations_deadlines, State.freeRecord_deadlines]

theorem State.expireRecord_deadlines (s : State) (i : LockIndex) (w : WaiterRecord) :
    (s.expireRecord i w).deadlines = s.deadlines.filter fun d => d.object != .wait i w.requester := by
  rw [State.expireRecord, State.dropReservations_deadlines, State.deliverReserved_deadlines, State.freeRecord_deadlines]

theorem State.grantedHead_deadlines (s : State) (i : LockIndex) (w : WaiterRecord) :
    (s.grantedHead i w).deadlines = s.deadlines.filter fun d => d.object != .wait i w.requester := by
  rw [State.grantedHead, State.deliverReserved_deadlines, State.setLock_deadlines, State.freeRecord_deadlines]

theorem State.grantHead_deadlines_of_leases {s : State} {i : LockIndex} {w : WaiterRecord} (h : (s.lock i).Leases w.mode) :
    (s.grantHead i w).deadlines =
      placeDeadline s.tick ⟨.lease i, s.tick + (s.lock i).leasePeriod.setWidth 32, false⟩
        (s.deadlines.filter fun d => d.object != .wait i w.requester) := by
  have hperiod : ((s.grantedHead i w).lock i).leasePeriod = (s.lock i).leasePeriod := by
    rw [State.grantedHead_lock_self]
    obtain ⟨-, -, -, hperiod, -⟩ :=
      ({ s.lock i with queue := (s.lock i).queue.erase w } : LockEntry).grantTo_same w.requester w.mode
    exact hperiod
  have htick : (s.grantedHead i w).tick = s.tick := by simp [State.grantedHead]
  rw [State.grantHead_of_leases h, State.startLease, State.insertDeadline, State.after, hperiod, htick,
    State.grantedHead_deadlines]

theorem State.grantHead_deadlines_of_not_leases {s : State} {i : LockIndex} {w : WaiterRecord}
    (h : ¬ (s.lock i).Leases w.mode) :
    (s.grantHead i w).deadlines = s.deadlines.filter fun d => d.object != .wait i w.requester := by
  rw [State.grantHead_of_not_leases h, State.dropReservations_deadlines, State.grantedHead_deadlines]

theorem State.revoke_deadlines (s : State) (i : LockIndex) (r : Requester) (rest : List Deadline) :
    (s.revoke i r rest).deadlines = rest := by
  rw [State.revoke, State.deliverReserved_deadlines]
  rfl

theorem State.endHold_deadlines (s : State) (i : LockIndex) (r : Requester) (shared : List Requester) (mark : Mark) :
    (s.endHold i r shared mark).deadlines =
      if (s.lock i).leasePeriod = 0 then s.deadlines else s.deadlines.filter fun d => d.object != .lease i := by
  rw [State.endHold, State.endLease, State.setLock_lock_self]
  split_ifs <;> rfl

/-! ### The order -/

theorem forwardDistance_after (now : Ticks) (n : Word) : forwardDistance now (now + n.setWidth 32) = n.toNat := by
  have hcancel : now + n.setWidth 32 - now = n.setWidth 32 := by bv_omega
  rw [forwardDistance, hcancel, BitVec.toNat_setWidth, Nat.mod_eq_of_lt (by have := n.isLt; omega)]

/-- The entry of an object that expires in `n` ticks, 1 to 65 535, lies that far ahead. -/
theorem forwardDistance_after_bounds (now : Ticks) {n : Word} (hn : n ≠ 0) :
    1 ≤ forwardDistance now (now + n.setWidth 32) ∧ forwardDistance now (now + n.setWidth 32) ≤ 65535 := by
  have hpos : n.toNat ≠ 0 := fun h => hn (BitVec.eq_of_toNat_eq h)
  have hlt := n.isLt
  rw [forwardDistance_after]
  omega

theorem forwardDistance_succ (now t : Ticks) (h : 1 ≤ forwardDistance now t) :
    forwardDistance (now + 1) t = forwardDistance now t - 1 := by
  unfold forwardDistance at *
  bv_omega

/-- The order of a deadline list at tick `now`, with the bounds on the entries not yet due. -/
def OrderedAt (now : Ticks) (l : List Deadline) : Prop :=
  l.Pairwise (Deadline.before now) ∧
  ∀ d ∈ l, d.due = false → 1 ≤ forwardDistance now d.tick ∧ forwardDistance now d.tick ≤ 65535

theorem DeadlinesOrdered.orderedAt {s : State} (h : DeadlinesOrdered s) : OrderedAt s.tick s.deadlines := h

theorem OrderedAt.sublist {now : Ticks} {l l' : List Deadline} (h : OrderedAt now l) (hsub : l'.Sublist l) :
    OrderedAt now l' := by
  obtain ⟨horder, hbounds⟩ := h
  exact ⟨horder.sublist hsub, fun d hd => hbounds d (hsub.subset hd)⟩

/-- R57: the place of a new entry. -/
theorem pairwise_placeDeadline {now : Ticks} {d : Deadline} (hdue : d.due = false) {l : List Deadline}
    (h : l.Pairwise (Deadline.before now)) : (placeDeadline now d l).Pairwise (Deadline.before now) := by
  induction l with
  | nil => exact List.pairwise_singleton _ _
  | cons x xs ih =>
    obtain ⟨hx, hxs⟩ := List.pairwise_cons.1 h
    rw [placeDeadline]
    by_cases hnear : (x.due || decide (forwardDistance now x.tick ≤ forwardDistance now d.tick)) = true
    · rw [if_pos hnear]
      refine List.pairwise_cons.2 ⟨fun y hy => ?_, ih hxs⟩
      obtain rfl | hy := (mem_placeDeadline now d y xs).1 hy
      · refine ⟨fun hy => absurd (hdue.symm.trans hy) nofun, fun hxdue _ => ?_⟩
        simpa [hxdue] using hnear
      · exact hx y hy
    · rw [if_neg hnear]
      have hfar : x.due = false ∧ forwardDistance now d.tick < forwardDistance now x.tick := by simpa using hnear
      obtain ⟨hxdue, hlt⟩ := hfar
      refine List.pairwise_cons.2 ⟨fun y hy => ?_, h⟩
      obtain rfl | hy := List.mem_cons.1 hy
      · exact ⟨fun hy => absurd (hxdue.symm.trans hy) nofun, fun _ _ => hlt.le⟩
      · obtain ⟨hfirst, hdistance⟩ := hx y hy
        exact ⟨fun hy => absurd (hxdue.symm.trans (hfirst hy)) nofun, fun _ hydue => hlt.le.trans (hdistance hxdue hydue)⟩

theorem OrderedAt.place {now : Ticks} {l : List Deadline} (h : OrderedAt now l) (o : DeadlineObject) {n : Word}
    (hn : n ≠ 0) :
    OrderedAt now (placeDeadline now ⟨o, now + n.setWidth 32, false⟩ l) := by
  obtain ⟨horder, hbounds⟩ := h
  refine ⟨pairwise_placeDeadline rfl horder, fun d hd hdue => ?_⟩
  obtain rfl | hd := (mem_placeDeadline _ _ d l).1 hd
  · exact forwardDistance_after_bounds now hn
  · exact hbounds d hd hdue

theorem OrderedAt.filter {now : Ticks} {l : List Deadline} (h : OrderedAt now l) (f : Deadline → Bool) :
    OrderedAt now (l.filter f) :=
  h.sublist List.filter_sublist

/-- R53, R55: at the end of a tick every entry it reaches falls due, and those are the first not yet due. -/
theorem OrderedAt.tick {now : Ticks} {l : List Deadline} (h : OrderedAt now l) :
    OrderedAt (now + 1) (l.map fun d => d.mark (now + 1)) := by
  obtain ⟨horder, hbounds⟩ := h
  have hnotdue : ∀ d : Deadline, (d.mark (now + 1)).due = false ↔ d.due = false ∧ d.tick ≠ now + 1 := fun d => by
    simp [Deadline.mark]
  have hreached : ∀ t : Ticks, t = now + 1 ↔ forwardDistance now t = 1 := fun t => by
    unfold forwardDistance
    constructor <;> intro ht <;> bv_omega
  refine ⟨?_, fun d hd hdue => ?_⟩
  · rw [List.pairwise_map]
    refine horder.imp_of_mem fun {x y} hx hy ⟨hfirst, hdistance⟩ => ?_
    refine ⟨fun hydue => ?_, fun hxdue hydue => ?_⟩
    · by_contra hxdue
      obtain ⟨hxdue, hxtick⟩ := (hnotdue x).1 (Bool.eq_false_iff.2 hxdue)
      have hyfar : y.due = false := Bool.eq_false_iff.2 fun hy => absurd (hxdue.symm.trans (hfirst hy)) nofun
      have hytick : y.tick = now + 1 := by
        by_contra hne
        exact absurd (hydue.symm.trans ((hnotdue y).2 ⟨hyfar, hne⟩)) nofun
      have hxbound := (hbounds x hx hxdue).1
      have hle := hdistance hxdue hyfar
      rw [(hreached _).1 hytick] at hle
      exact hxtick ((hreached _).2 (le_antisymm hle hxbound))
    · obtain ⟨hxdue, -⟩ := (hnotdue x).1 hxdue
      obtain ⟨hydue, -⟩ := (hnotdue y).1 hydue
      have hle := hdistance hxdue hydue
      change forwardDistance (now + 1) x.tick ≤ forwardDistance (now + 1) y.tick
      rw [forwardDistance_succ _ _ (hbounds x hx hxdue).1, forwardDistance_succ _ _ (hbounds y hy hydue).1]
      omega
  · obtain ⟨x, hx, rfl⟩ := List.mem_map.1 hd
    obtain ⟨hxdue, hxtick⟩ := (hnotdue x).1 hdue
    have hbound := hbounds x hx hxdue
    rw [Ne, hreached] at hxtick
    change 1 ≤ forwardDistance (now + 1) x.tick ∧ forwardDistance (now + 1) x.tick ≤ 65535
    rw [forwardDistance_succ _ _ hbound.1]
    omega

/-! ### Every step -/

theorem DeadlinesOrdered.of_orderedAt {s t : State} {l : List Deadline} (h : OrderedAt s.tick l) (htick : t.tick = s.tick)
    (hlist : t.deadlines = l) : DeadlinesOrdered t := by
  unfold DeadlinesOrdered
  rw [htick, hlist]
  exact h

theorem DeadlinesOrdered.lockStep {i : LockIndex} {s t : State} (h : DeadlinesOrdered s) (hstep : LockStep i s t) :
    DeadlinesOrdered t := by
  have horder := h.orderedAt
  have htick : t.tick = s.tick := by rw [QueuesOnly.of_lockStep hstep]
  cases hstep with
  | discard w => exact .of_orderedAt (horder.filter _) htick (s.discardRecord_deadlines i w)
  | grant w rest hqueue hlive haccepts =>
    by_cases hlease : (s.lock i).Leases w.mode
    · exact .of_orderedAt ((horder.filter _).place _ hlease.2) htick (State.grantHead_deadlines_of_leases hlease)
    · exact .of_orderedAt (horder.filter _) htick (State.grantHead_deadlines_of_not_leases hlease)
  | expire w => exact .of_orderedAt (horder.filter _) htick (s.expireRecord_deadlines i w)
  | revoke r k rest hlist =>
    refine .of_orderedAt (horder.sublist ?_) htick (s.revoke_deadlines i r rest)
    rw [hlist]
    exact List.sublist_cons_self _ rest
  | endHold r shared mark =>
    refine .of_orderedAt ?_ htick (s.endHold_deadlines i r shared mark)
    split_ifs
    · exact horder
    · exact horder.filter _
  | narrow => exact h

theorem DeadlinesOrdered.lockSteps {i : LockIndex} {s t : State} (h : DeadlinesOrdered s) (hsteps : LockSteps i s t) :
    DeadlinesOrdered t :=
  hsteps.keeps h fun _ _ hstep hu => hu.lockStep hstep

theorem DeadlinesOrdered.lockMove {s t : State} (h : DeadlinesOrdered s) {k : Command} {p : Port}
    (hmove : LockMove s p k t) :
    DeadlinesOrdered t := by
  have horder := h.orderedAt
  cases hmove with
  | grantLease r hh m hlive hpass hqueue haccepts hlease => exact .of_orderedAt (horder.place _ hlease.2) rfl rfl
  | wait r hh m limit hport hlive hpass hwait hlimit =>
    refine .of_orderedAt (s := s) (l := if limit = 65535 then _ else _) ?_ rfl rfl
    split_ifs
    · exact horder
    · exact horder.place _ hlimit
  | renew i r hholder hperiod => exact .of_orderedAt ((horder.filter _).place _ hperiod) rfl rfl
  | evaluated k i u hsteps => exact h.lockSteps hsteps.evaluate
  | _ => exact h

theorem DeadlinesOrdered.depart {s : State} (h : DeadlinesOrdered s) (p : Port) (c : Cause) :
    DeadlinesOrdered (s.depart p c) :=
  .of_orderedAt (h.orderedAt.filter _) (by simp) (s.depart_deadlines p c)

theorem DeadlinesOrdered.renewedDeadlines {s : State} (h : DeadlinesOrdered s) (p : Port) :
    OrderedAt s.tick (s.renewedDeadlines p) := by
  unfold State.renewedDeadlines
  split_ifs with hlimit
  · exact (h.orderedAt.filter _).place _ hlimit.2
  · exact h

theorem DeadlinesOrdered.writeKalive {s : State} (h : DeadlinesOrdered s) (p : Port) (v : Word) :
    DeadlinesOrdered (s.writeKalive p v) := by
  unfold State.writeKalive
  split_ifs with hlive hzero
  · exact .of_orderedAt (h.orderedAt.filter _) rfl rfl
  · exact .of_orderedAt ((h.orderedAt.filter _).place _ hzero) rfl rfl
  · exact h

theorem DeadlinesOrdered.startSession {s : State} (h : DeadlinesOrdered s) (p : Port) :
    DeadlinesOrdered (s.startSession p) := by
  refine .of_orderedAt (s := s) (l := if (s.session p).keepalive = 0 then _ else _) ?_ rfl rfl
  split_ifs with hzero
  · exact h
  · exact h.orderedAt.place _ hzero

theorem DeadlinesOrdered.blockStep {s t : State} (h : DeadlinesOrdered s) (hstep : BlockStep s t) : DeadlinesOrdered t := by
  cases hstep with
  | lock k p t hmove => exact h.lockMove hmove
  | barrier r b k t hlive hmove => rw [BarriersOnly.of_barrierMove hmove]; exact h
  | attach p => exact h.startSession p
  | depart p c => exact h.depart p c
  | portReset p =>
    unfold State.resetPort
    split_ifs
    · exact h.depart p _
    · exact h
  | interval p v => exact h.writeKalive p v
  | cap p v => rw [State.writeWcap_frame]; exact h
  | renewKeepalive p => rw [State.renewKeepalive_eq]; exact h.renewedDeadlines p
  | tick => exact h.orderedAt.tick
  | stale o k rest hlist =>
    refine .of_orderedAt (h.orderedAt.sublist ?_) rfl rfl
    rw [hlist]
    exact List.sublist_cons_self _ rest
  | lockVisit p i =>
    have hvisited : DeadlinesOrdered (s.visitLock p i) := h.lockSteps (.visitLock s p i)
    exact hvisited
  | barrierVisit p b => exact .of_orderedAt h.orderedAt (by simp) (by simp)
  | finalStep p => rw [State.nextSweep_frame]; exact h
  | deviceReset => exact DeadlinesOrdered.reset
  | _ => exact h

theorem DeadlinesOrdered.hostOnly {u t : State} (h : DeadlinesOrdered u) (hhost : HostOnly u t) : DeadlinesOrdered t := by
  rw [hhost]
  exact h

end Sys2Proof.Machine
end

section
/-! PROOFS. Every step keeps the order of the deadline list. -/

open Sys2Proof Sys2Proof.Machine

/-- Settles O10: what an event takes out or places keeps the order, and at a tick the entries reached are the first ones. -/
theorem deadlineOrderIsKept : Obligations.DeadlineOrderIsKept := fun _ _ horder hstep =>
  kept_of_step (P := DeadlinesOrdered) (fun _ _ h => h) (fun _ _ hhost h => h.hostOnly hhost)
    (fun _ _ hblock h => h.blockStep hblock) hstep horder
end

section
/-! PROOFS. The deadline list against the objects that have limits, in every step (R56). -/

namespace Sys2Proof.Machine

/-! ### The objects of the list -/

/-- R56: an object that must have its entry while it has a limit; a wait may have none. -/
def DeadlineObject.Required : DeadlineObject → Prop
  | .wait _ _ => False
  | .lease _ => True
  | .keepalive _ => True

theorem DeadlinesMatch.object_nodup {s : State} (h : DeadlinesMatch s) : (s.deadlines.map (·.object)).Nodup := h.1

theorem DeadlinesMatch.limits {s : State} (h : DeadlinesMatch s) {o : DeadlineObject} (ho : o ∈ s.deadlines.map (·.object)) :
    s.limits o := by
  obtain ⟨-, hlimits, -⟩ := h
  obtain ⟨d, hd, rfl⟩ := List.mem_map.1 ho
  exact hlimits d hd

theorem DeadlinesMatch.mem_of_limits {s : State} (h : DeadlinesMatch s) {o : DeadlineObject} (hrequired : o.Required)
    (hlimits : s.limits o) : o ∈ s.deadlines.map (·.object) := by
  obtain ⟨-, -, hlease, hkeepalive⟩ := h
  rw [List.mem_map]
  cases o with
  | wait => exact hrequired.elim
  | lease i => exact hlease i hlimits
  | keepalive p => exact hkeepalive p hlimits

theorem DeadlinesMatch.of_objects {s : State} {l : List DeadlineObject} (hlist : (s.deadlines.map (·.object)).Perm l)
    (hnodup : l.Nodup) (hlimits : ∀ o ∈ l, s.limits o) (hrequired : ∀ o : DeadlineObject, o.Required → s.limits o → o ∈ l) :
    DeadlinesMatch s := by
  refine ⟨hlist.nodup_iff.2 hnodup, fun d hd => hlimits _ (hlist.mem_iff.1 (List.mem_map_of_mem hd)), fun i hi => ?_,
    fun p hp => ?_⟩
  · exact List.mem_map.1 (hlist.mem_iff.2 (hrequired (.lease i) trivial hi))
  · exact List.mem_map.1 (hlist.mem_iff.2 (hrequired (.keepalive p) trivial hp))

theorem map_object_filter (l : List Deadline) (o : DeadlineObject) :
    (l.filter fun d => d.object != o).map (·.object) = (l.map (·.object)).filter (· != o) := by
  rw [List.filter_map]
  rfl

/-! ### What an event may do to the list -/

/-- The list keeps its objects; limits appear for waits at most. -/
theorem DeadlinesMatch.of_kept {s t : State} (h : DeadlinesMatch s)
    (hlist : t.deadlines.map (·.object) = s.deadlines.map (·.object)) (hkeep : ∀ o, s.limits o → t.limits o)
    (hnew : ∀ o : DeadlineObject, o.Required → t.limits o → s.limits o) : DeadlinesMatch t :=
  .of_objects (.of_eq hlist) h.object_nodup (fun o ho => hkeep o (h.limits ho))
    fun o hrequired ho => h.mem_of_limits hrequired (hnew o hrequired ho)

/-- The entry of object `o` leaves the list. -/
theorem DeadlinesMatch.of_removed {s t : State} (h : DeadlinesMatch s) {o : DeadlineObject}
    (hlist : t.deadlines = s.deadlines.filter fun d => d.object != o) (hkeep : ∀ o', o' ≠ o → s.limits o' → t.limits o')
    (hnew : ∀ o' : DeadlineObject, o' ≠ o ∧ o'.Required → t.limits o' → s.limits o') (hgone : o.Required → ¬ t.limits o) :
    DeadlinesMatch t := by
  have hmem : ∀ o', o' ∈ (s.deadlines.map (·.object)).filter (· != o) ↔ o' ∈ s.deadlines.map (·.object) ∧ o' ≠ o := by
    simp [List.mem_filter]
  refine .of_objects (l := (s.deadlines.map (·.object)).filter (· != o)) ?_ (h.object_nodup.filter _) (fun o' ho' => ?_)
    fun o' hrequired ho' => ?_
  · rw [hlist, map_object_filter]
  · obtain ⟨hlisted, hne⟩ := (hmem o').1 ho'
    exact hkeep o' hne (h.limits hlisted)
  · have hne : o' ≠ o := fun heq => hgone (heq ▸ hrequired) (heq ▸ ho')
    exact (hmem o').2 ⟨h.mem_of_limits hrequired (hnew o' ⟨hne, hrequired⟩ ho'), hne⟩

/-- The entry of object `o` leaves the list, and an entry `d` is placed. -/
theorem DeadlinesMatch.of_moved {s t : State} (h : DeadlinesMatch s) {o : DeadlineObject} {now : Ticks} {d : Deadline}
    (hlist : t.deadlines = placeDeadline now d (s.deadlines.filter fun d => d.object != o))
    (hplaced : t.limits d.object) (hfree : d.object ≠ o → ¬ s.limits d.object)
    (hkeep : ∀ o', o' ≠ o → s.limits o' → t.limits o')
    (hnew : ∀ o' : DeadlineObject, o' ≠ d.object ∧ o'.Required → t.limits o' → o' ≠ o ∧ s.limits o') : DeadlinesMatch t := by
  have hmem : ∀ o', o' ∈ (s.deadlines.map (·.object)).filter (· != o) ↔ o' ∈ s.deadlines.map (·.object) ∧ o' ≠ o := by
    simp [List.mem_filter]
  refine .of_objects (l := d.object :: (s.deadlines.map (·.object)).filter (· != o)) ?_
    (List.nodup_cons.2 ⟨fun hd => ?_, h.object_nodup.filter _⟩) (fun o' ho' => ?_) fun o' hrequired ho' => ?_
  · rw [hlist, ← map_object_filter]
    exact (placeDeadline_perm now d _).map _
  · obtain ⟨hlisted, hne⟩ := (hmem _).1 hd
    exact hfree hne (h.limits hlisted)
  · obtain rfl | ho' := List.mem_cons.1 ho'
    · exact hplaced
    · obtain ⟨hlisted, hne⟩ := (hmem o').1 ho'
      exact hkeep o' hne (h.limits hlisted)
  · by_cases hd : o' = d.object
    · exact hd ▸ List.mem_cons_self
    · obtain ⟨hne, hbefore⟩ := hnew o' ⟨hd, hrequired⟩ ho'
      exact List.mem_cons_of_mem _ ((hmem o').2 ⟨h.mem_of_limits hrequired hbefore, hne⟩)

/-- An entry is placed for an object that had no limit. -/
theorem DeadlinesMatch.of_placed {s t : State} (h : DeadlinesMatch s) {now : Ticks} {d : Deadline}
    (hlist : t.deadlines = placeDeadline now d s.deadlines) (hplaced : t.limits d.object) (hfree : ¬ s.limits d.object)
    (hkeep : ∀ o', o' ≠ d.object → s.limits o' → t.limits o')
    (hnew : ∀ o' : DeadlineObject, o' ≠ d.object ∧ o'.Required → t.limits o' → s.limits o') : DeadlinesMatch t := by
  have hnone : (s.deadlines.filter fun x => x.object != d.object) = s.deadlines :=
    List.filter_eq_self.2 fun x hx => by
      have hne : x.object ≠ d.object := fun heq => hfree (heq ▸ h.limits (List.mem_map_of_mem hx))
      simpa using hne
  refine h.of_moved (o := d.object) (hlist.trans (by rw [hnone])) hplaced (fun hne => absurd rfl hne) hkeep
    fun o' ⟨hne, hrequired⟩ ho' => ⟨hne, hnew o' ⟨hne, hrequired⟩ ho'⟩

/-! ### Where limits change -/

theorem State.limits_lease_iff (s : State) (i : LockIndex) :
    s.limits (.lease i) ↔ (s.lock i).exclusiveHolder ≠ none ∧ (s.lock i).leasePeriod ≠ 0 := .rfl

theorem State.limits_wait_iff (s : State) (i : LockIndex) (r : Requester) :
    s.limits (.wait i r) ↔ ∃ w ∈ (s.lock i).queue, w.requester = r := .rfl

theorem State.limits_keepalive_iff (s : State) (p : Port) :
    s.limits (.keepalive p) ↔ s.attached p = true ∧ (s.session p).keepalive ≠ 0 := .rfl

theorem State.not_limits_lease {s : State} {i : LockIndex} (h : (s.lock i).exclusiveHolder = none) : ¬ s.limits (.lease i) :=
  fun hlimits => hlimits.1 h

/-- Limits change at lock `i` only, where only its entry changes. -/
theorem limits_of_lock_ne {s t : State} {i : LockIndex} (hother : ∀ j, j ≠ i → t.lock j = s.lock j)
    (hsession : ∀ p, t.session p = s.session p) {P : DeadlineObject → Prop}
    (hwait : ∀ r, P (.wait i r) → s.limits (.wait i r) → t.limits (.wait i r))
    (hlease : P (.lease i) → s.limits (.lease i) → t.limits (.lease i)) : ∀ o, P o → s.limits o → t.limits o := by
  intro o ho hlimits
  cases o with
  | wait j r =>
    by_cases hj : j = i
    · subst hj
      exact hwait r ho hlimits
    · rw [State.limits_wait_iff, hother j hj]
      exact hlimits
  | lease j =>
    by_cases hj : j = i
    · subst hj
      exact hlease ho hlimits
    · rw [State.limits_lease_iff, hother j hj]
      exact hlimits
  | keepalive p =>
    rw [State.limits_keepalive_iff, State.attached_eq, hsession]
    exact hlimits

/-- Limits change at port `p` only, where only its session record changes. -/
theorem limits_of_session_ne {s t : State} {p : Port} (hlock : ∀ i, t.lock i = s.lock i)
    (hother : ∀ q, q ≠ p → t.session q = s.session q) {P : DeadlineObject → Prop}
    (hkeepalive : P (.keepalive p) → s.limits (.keepalive p) → t.limits (.keepalive p)) :
    ∀ o, P o → s.limits o → t.limits o := by
  intro o ho hlimits
  cases o with
  | wait i r =>
    rw [State.limits_wait_iff, hlock]
    exact hlimits
  | lease i =>
    rw [State.limits_lease_iff, hlock]
    exact hlimits
  | keepalive q =>
    by_cases hq : q = p
    · subst hq
      exact hkeepalive ho hlimits
    · rw [State.limits_keepalive_iff, State.attached_eq, hother q hq]
      exact hlimits

/-! ### The steps at one lock -/

theorem LockStep.session {i : LockIndex} {s t : State} (h : LockStep i s t) (p : Port) : t.session p = s.session p := by
  rw [QueuesOnly.of_lockStep h]
  rfl

/-- Record `w` leaves the queue with its entry, and the lease's limit does not change. -/
theorem DeadlinesMatch.of_freed {s t : State} (h : DeadlinesMatch s) {i : LockIndex} {w : WaiterRecord}
    (hstep : LockStep i s t)
    (hqueue : (t.lock i).queue = (s.lock i).queue.erase w)
    (hlist : t.deadlines = s.deadlines.filter fun d => d.object != .wait i w.requester)
    (hlease : t.limits (.lease i) ↔ s.limits (.lease i)) : DeadlinesMatch t := by
  have hother := fun j (hj : j ≠ i) => hstep.lock_ne hj
  refine h.of_removed hlist (limits_of_lock_ne hother hstep.session (fun r hr => ?_) fun _ => hlease.2)
    (limits_of_lock_ne (fun j hj => (hother j hj).symm) (fun p => (hstep.session p).symm) (fun r hr => hr.2.elim)
      fun _ => hlease.1) False.elim
  rintro ⟨x, hx, rfl⟩
  have hne : x ≠ w := fun heq => hr (by rw [heq])
  rw [State.limits_wait_iff, hqueue]
  exact ⟨x, (List.mem_erase_of_ne hne).2 hx, rfl⟩

theorem DeadlinesMatch.grant {s : State} (h : DeadlinesMatch s) {i : LockIndex} {w : WaiterRecord}
    {rest : List WaiterRecord} (hqueue : (s.lock i).queue = w :: rest) (hlive : s.attached w.requester.port = true)
    (haccepts : (s.lock i).Accepts w.mode) : DeadlinesMatch (s.grantHead i w) := by
  have hstep : LockStep i s (s.grantHead i w) := .grant w rest hqueue hlive haccepts
  obtain ⟨hnone, -⟩ := haccepts
  have hentry := State.grantHead_lock_self hqueue
  let e : LockEntry := { s.lock i with queue := rest }
  obtain ⟨hkeeps, -, -, hperiod, -⟩ := e.grantTo_same w.requester w.mode
  have hrest : ((s.grantHead i w).lock i).queue = (s.lock i).queue.erase w := by
    rw [hentry, hkeeps, hqueue, List.erase_cons_head]
  have hother := fun j (hj : j ≠ i) => hstep.lock_ne hj
  by_cases hlease : (s.lock i).Leases w.mode
  · obtain ⟨hmode, hleased⟩ := hlease
    have hlimits : (s.grantHead i w).limits (.lease i) := by
      rw [State.limits_lease_iff, hentry, hmode]
      exact ⟨nofun, hleased⟩
    refine h.of_moved (o := .wait i w.requester) (State.grantHead_deadlines_of_leases ⟨hmode, hleased⟩) hlimits
      (fun _ => State.not_limits_lease hnone)
      (limits_of_lock_ne hother hstep.session (fun r hr => ?_) fun _ _ => hlimits) fun o ⟨hne, hrequired⟩ ho => ⟨?_, ?_⟩
    · rintro ⟨x, hx, rfl⟩
      have hne : x ≠ w := fun heq => hr (by rw [heq])
      rw [State.limits_wait_iff, hrest]
      exact ⟨x, (List.mem_erase_of_ne hne).2 hx, rfl⟩
    · rintro rfl
      exact hrequired
    · exact limits_of_lock_ne (P := fun o => o ≠ .lease i ∧ o.Required) (fun j hj => (hother j hj).symm)
        (fun p => (hstep.session p).symm) (fun r hr => hr.2.elim) (fun hi => absurd rfl hi.1) o ⟨hne, hrequired⟩ ho
  · refine h.of_freed hstep hrest (State.grantHead_deadlines_of_not_leases hlease)
      (iff_of_false (fun hlimits => ?_) (State.not_limits_lease hnone))
    rw [State.limits_lease_iff, hentry, hperiod] at hlimits
    obtain ⟨hholder, hleased⟩ := hlimits
    cases hmode : w.mode with
    | exclusive => exact hlease ⟨hmode, hleased⟩
    | shared =>
      rw [hmode] at hholder
      exact hholder hnone

/-- The exclusive hold ends, with the entry of its lease. -/
theorem DeadlinesMatch.of_holdEnded {s t : State} (h : DeadlinesMatch s) {i : LockIndex} (hstep : LockStep i s t)
    (hqueue : (t.lock i).queue = (s.lock i).queue) (hnone : (t.lock i).exclusiveHolder = none)
    (hlist : t.deadlines = s.deadlines.filter fun d => d.object != .lease i) : DeadlinesMatch t := by
  have hother := fun j (hj : j ≠ i) => hstep.lock_ne hj
  refine h.of_removed hlist (limits_of_lock_ne hother hstep.session (fun r _ => ?_) fun hi => absurd rfl hi)
    (limits_of_lock_ne (fun j hj => (hother j hj).symm) (fun p => (hstep.session p).symm) (fun r hr => hr.2.elim)
      fun hi => absurd rfl hi.1) fun _ => State.not_limits_lease hnone
  rw [State.limits_wait_iff, State.limits_wait_iff, hqueue]
  exact id

/-- The entry is rewritten, but neither its queue nor whether it has a lease to end. -/
theorem DeadlinesMatch.of_lock_same {s t : State} (h : DeadlinesMatch s) {i : LockIndex}
    (hother : ∀ j, j ≠ i → t.lock j = s.lock j)
    (hsession : ∀ p, t.session p = s.session p) (hlist : t.deadlines = s.deadlines)
    (hqueue : (t.lock i).queue = (s.lock i).queue) (hlease : t.limits (.lease i) ↔ s.limits (.lease i)) :
    DeadlinesMatch t := by
  refine h.of_kept (by rw [hlist]) (fun o => ?_) fun o hrequired => ?_
  · refine limits_of_lock_ne (P := fun _ => True) hother hsession (fun r _ => ?_) (fun _ => hlease.2) o trivial
    rw [State.limits_wait_iff, State.limits_wait_iff, hqueue]
    exact id
  · exact limits_of_lock_ne (P := DeadlineObject.Required) (fun j hj => (hother j hj).symm) (fun p => (hsession p).symm)
      (fun r hr => hr.elim) (fun _ => hlease.1) o hrequired

/-- The due entry at the head is its object's only one. -/
theorem DeadlinesMatch.tail_eq_filter {s : State} (h : DeadlinesMatch s) {o : DeadlineObject} {k : Ticks} {due : Bool}
    {rest : List Deadline} (hlist : s.deadlines = ⟨o, k, due⟩ :: rest) : rest = s.deadlines.filter fun d => d.object != o := by
  have hnodup := h.object_nodup
  rw [hlist, List.map_cons, List.nodup_cons] at hnodup
  have hrest : (rest.filter fun d => d.object != o) = rest := List.filter_eq_self.2 fun d hd => by
    have hne : d.object ≠ o := fun heq => hnodup.1 (List.mem_map.2 ⟨d, hd, heq⟩)
    simpa using hne
  rw [hlist, List.filter_cons_of_neg (by simp), hrest]

theorem DeadlinesMatch.lockStep {i : LockIndex} {s t : State} (h : DeadlinesMatch s) (hstep : LockStep i s t) :
    DeadlinesMatch t := by
  have hother := fun j (hj : j ≠ i) => hstep.lock_ne hj
  have hwhole := hstep
  cases hstep with
  | discard w hmem =>
    have hentry := s.discardRecord_lock i w i
    rw [if_pos rfl] at hentry
    refine h.of_freed hwhole (by rw [hentry]) (s.discardRecord_deadlines i w) ?_
    rw [State.limits_lease_iff, State.limits_lease_iff, hentry]
  | grant w rest hqueue hlive haccepts => exact h.grant hqueue hlive haccepts
  | expire w hmem =>
    have hentry := s.expireRecord_lock i w
    refine h.of_freed hwhole (by rw [hentry]) (s.expireRecord_deadlines i w) ?_
    rw [State.limits_lease_iff, State.limits_lease_iff, hentry]
  | revoke r k rest hlist =>
    have hentry := s.revoke_lock i r rest
    exact h.of_holdEnded hwhole (by rw [hentry]) (by rw [hentry])
      ((s.revoke_deadlines i r rest).trans (h.tail_eq_filter hlist))
  | endHold r shared mark =>
    have hentry := s.endHold_lock i r shared mark
    have hlist := s.endHold_deadlines i r shared mark
    by_cases hperiod : (s.lock i).leasePeriod = 0
    · rw [if_pos hperiod] at hlist
      refine h.of_lock_same hother hwhole.session hlist (by rw [hentry]) (iff_of_false ?_ fun hlimits => hlimits.2 hperiod)
      exact State.not_limits_lease (by rw [hentry])
    · rw [if_neg hperiod] at hlist
      exact h.of_holdEnded hwhole (by rw [hentry]) (by rw [hentry]) hlist
  | narrow shared allocator =>
    refine h.of_lock_same hother hwhole.session rfl ?_ ?_
    · rw [State.setLock_lock_self]
    · rw [State.limits_lease_iff, State.limits_lease_iff, State.setLock_lock_self]

theorem DeadlinesMatch.lockSteps {i : LockIndex} {s t : State} (h : DeadlinesMatch s) (hsteps : LockSteps i s t) :
    DeadlinesMatch t :=
  hsteps.keeps h fun _ _ hstep hu => hu.lockStep hstep

/-! ### The lock table's commands -/

theorem DeadlinesMatch.of_onlyLock {s t : State} (h : DeadlinesMatch s) {i : LockIndex} {x : LockEntry}
    (honly : OnlyLock i x s t)
    (hsession : ∀ p, t.session p = s.session p) (hlist : t.deadlines = s.deadlines) (hqueue : x.queue = (s.lock i).queue)
    (hlease : x.exclusiveHolder ≠ none ∧ x.leasePeriod ≠ 0 ↔ s.limits (.lease i)) : DeadlinesMatch t := by
  obtain ⟨rfl, hother⟩ := honly
  exact h.of_lock_same hother hsession hlist hqueue hlease

/-- A lock without an exclusive holder is rewritten, and has none then. -/
theorem DeadlinesMatch.of_unheld {s t : State} (h : DeadlinesMatch s) {i : LockIndex} {x : LockEntry}
    (honly : OnlyLock i x s t)
    (hsession : ∀ p, t.session p = s.session p) (hlist : t.deadlines = s.deadlines) (hqueue : x.queue = (s.lock i).queue)
    (hnone : (s.lock i).exclusiveHolder = none) (hstill : x.exclusiveHolder = none) : DeadlinesMatch t :=
  h.of_onlyLock honly hsession hlist hqueue (iff_of_false (fun hlease => hlease.1 hstill) (State.not_limits_lease hnone))

theorem DeadlinesMatch.grantNow {s : State} (h : DeadlinesMatch s) {i : LockIndex} {r : Requester} {m : Mode}
    (haccepts : (s.lock i).Accepts m) (hlease : ¬ (s.lock i).Leases m) :
    DeadlinesMatch (s.setLock i ((s.lock i).grantTo r m)) := by
  obtain ⟨hnone, -⟩ := haccepts
  refine h.of_onlyLock (.of_setLock s i _) (fun _ => rfl) rfl ((s.lock i).grantTo_same r m).1
    (iff_of_false (fun ⟨hholder, hperiod⟩ => ?_) (State.not_limits_lease hnone))
  cases m with
  | exclusive => exact hlease ⟨rfl, hperiod⟩
  | shared => exact hholder hnone

theorem DeadlinesMatch.grantLease {s : State} (h : DeadlinesMatch s) {i : LockIndex} (r : Requester) {m : Mode}
    (haccepts : (s.lock i).Accepts m) (hlease : (s.lock i).Leases m) : DeadlinesMatch (s.grantLease i r m) := by
  obtain ⟨hnone, -⟩ := haccepts
  obtain ⟨rfl, hperiod⟩ := hlease
  obtain ⟨hself, hother⟩ : OnlyLock i ((s.lock i).grantTo r .exclusive) s (s.grantLease i r .exclusive) := .of_locks_eq rfl
  have hlimits : (s.grantLease i r .exclusive).limits (.lease i) := by
    rw [State.limits_lease_iff, hself]
    exact ⟨nofun, hperiod⟩
  refine h.of_placed (d := ⟨.lease i, s.after (s.lock i).leasePeriod, false⟩) rfl hlimits (State.not_limits_lease hnone)
    (limits_of_lock_ne hother (fun _ => rfl) (fun r' _ => ?_) fun hi => absurd rfl hi)
    (limits_of_lock_ne (fun j hj => (hother j hj).symm) (fun _ => rfl) (fun r' hr => hr.2.elim) fun hi => absurd rfl hi.1)
  rw [State.limits_wait_iff, State.limits_wait_iff, hself]
  exact id

theorem DeadlinesMatch.wait {s : State} (h : DeadlinesMatch s) {w : WaiterRecord}
    (hwaits : ∀ x ∈ (s.lock w.lock).queue, x.requester ≠ w.requester) (limit : Word) :
    DeadlinesMatch (s.withWaiter w limit) := by
  obtain ⟨hself, hother⟩ := s.withWaiter_lock w limit
  have hkeep : ∀ o, True → s.limits o → (s.withWaiter w limit).limits o := by
    refine limits_of_lock_ne (P := fun _ => True) hother (fun _ => rfl) (fun r _ => ?_) fun _ => ?_
    · rintro ⟨x, hx, hr⟩
      rw [State.limits_wait_iff, hself]
      exact ⟨x, List.mem_append_left _ hx, hr⟩
    · rw [State.limits_lease_iff, State.limits_lease_iff, hself]
      exact id
  have hnew : ∀ o, o.Required → (s.withWaiter w limit).limits o → s.limits o := by
    refine limits_of_lock_ne (P := DeadlineObject.Required) (fun j hj => (hother j hj).symm) (fun _ => rfl)
      (fun r hr => hr.elim) fun _ => ?_
    rw [State.limits_lease_iff, State.limits_lease_iff, hself]
    exact id
  have hlimits : (s.withWaiter w limit).limits (.wait w.lock w.requester) := by
    rw [State.limits_wait_iff, hself]
    exact ⟨w, List.mem_append_right _ List.mem_cons_self, rfl⟩
  have hlist : (s.withWaiter w limit).deadlines = if limit = 65535 then s.deadlines else
      placeDeadline s.tick ⟨.wait w.lock w.requester, s.tick + limit.setWidth 32, false⟩ s.deadlines := rfl
  by_cases hforever : limit = 65535
  · rw [if_pos hforever] at hlist
    exact h.of_kept (by rw [hlist]) (fun o => hkeep o trivial) hnew
  · rw [if_neg hforever] at hlist
    exact h.of_placed hlist hlimits (fun ⟨x, hx, hr⟩ => hwaits x hx hr) (fun o _ => hkeep o trivial)
      fun o ⟨_, hrequired⟩ => hnew o hrequired

/-- The entry of an object that has a limit is placed anew, and nothing else is. -/
theorem DeadlinesMatch.moveDeadline {s : State} (h : DeadlinesMatch s) {o : DeadlineObject} (hlimits : s.limits o)
    (t : Ticks) :
    DeadlinesMatch (s.moveDeadline o t) :=
  have hsame : ∀ o', (s.moveDeadline o t).limits o' ↔ s.limits o' := fun o' => by cases o' <;> exact .rfl
  h.of_moved (d := ⟨o, t, false⟩) rfl ((hsame o).2 hlimits) (fun hne => absurd rfl hne) (fun o' _ => (hsame o').2)
    fun o' ho' hnow => ⟨ho'.1, (hsame o').1 hnow⟩

theorem DeadlinesMatch.lockMove {s t : State} (h : DeadlinesMatch s) (htable : LockTableSound s) {k : Command} {p : Port}
    (hmove : LockMove s p k t) : DeadlinesMatch t := by
  obtain ⟨⟨-, hlist⟩, hentries⟩ := htable
  have hunused : ∀ i, ¬ (s.lock i).inUse = true → (s.lock i).exclusiveHolder = none := fun i hi => by
    obtain ⟨hholder, -⟩ := (LockEntry.not_inUse_iff _).1 hi
    exact ((LockEntry.noHolder_iff _).1 hholder).1
  cases hmove with
  | allocate i k lease rest hlive hhead =>
    obtain ⟨-, -, hfree, -⟩ := hentries i
    obtain ⟨hholder, -⟩ := hfree ((hlist i).1 (hhead ▸ List.mem_cons_self))
    have hnone := ((LockEntry.noHolder_iff _).1 hholder).1
    exact h.of_unheld (i := i) (x := { s.lock i with state := .allocated, kind := k, leasePeriod := lease, allocator := some p })
      (.of_locks_eq rfl) (fun _ => rfl) rfl rfl hnone hnone
  | retire i hallocated hindex huse =>
    exact h.of_unheld (i := i) (x := (s.lock i).retired) (.of_locks_eq rfl) (fun _ => rfl) rfl rfl (hunused i huse)
      (hunused i huse)
  | define a hflight huse =>
    exact h.of_unheld (.of_setLock s a.fixedIndex _) (fun _ => rfl) rfl rfl (hunused _ huse) (hunused _ huse)
  | grant r hh m hlive hpass hqueue haccepts hlease => exact h.grantNow haccepts hlease
  | grantLease r hh m hlive hpass hqueue haccepts hlease => exact h.grantLease r haccepts hlease
  | wait r hh m limit hport hlive hpass =>
    obtain ⟨-, -, -, -, hwaits⟩ := hpass
    exact h.wait hwaits limit
  | renew i r hholder hperiod => exact h.moveDeadline (o := .lease i) ⟨by rw [hholder]; exact nofun, hperiod⟩ _
  | evaluated k i u hsteps => exact h.lockSteps hsteps.evaluate

/-! ### The sessions -/

/-- One session record changes, but not whether its port has a keepalive to expire. -/
theorem DeadlinesMatch.of_session_same {s t : State} (h : DeadlinesMatch s) (hlock : ∀ i, t.lock i = s.lock i)
    (hlist : t.deadlines.map (·.object) = s.deadlines.map (·.object))
    (hkeepalive : ∀ p, t.limits (.keepalive p) ↔ s.limits (.keepalive p)) : DeadlinesMatch t := by
  have hsame : ∀ o, t.limits o ↔ s.limits o := fun o => by
    cases o with
    | wait => rw [State.limits_wait_iff, State.limits_wait_iff, hlock]
    | lease => rw [State.limits_lease_iff, State.limits_lease_iff, hlock]
    | keepalive p => exact hkeepalive p
  exact h.of_kept hlist (fun o => (hsame o).2) fun o _ => (hsame o).1

theorem DeadlinesMatch.startSession {s : State} (h : DeadlinesMatch s) {p : Port}
    (hdetached : (s.session p).state = .detached) :
    DeadlinesMatch (s.startSession p) := by
  have hnot : ¬ s.limits (.keepalive p) := fun hlimits => by
    have hlive := hlimits.1
    rw [State.attached_eq, hdetached] at hlive
    exact absurd hlive nofun
  have hself := s.startSession_session p p
  rw [if_pos rfl] at hself
  have hother : ∀ q, q ≠ p → (s.startSession p).session q = s.session q := fun q hq => by
    rw [State.startSession_session, if_neg hq]
  have hafter : (s.startSession p).limits (.keepalive p) ↔ (s.session p).keepalive ≠ 0 := by
    rw [State.limits_keepalive_iff, State.attached_eq, hself]
    exact ⟨fun hlimits => hlimits.2, fun hinterval => ⟨rfl, hinterval⟩⟩
  have hlist : (s.startSession p).deadlines = if (s.session p).keepalive = 0 then s.deadlines else
      placeDeadline s.tick ⟨.keepalive p, s.after (s.session p).keepalive, false⟩ s.deadlines := rfl
  by_cases hzero : (s.session p).keepalive = 0
  · rw [if_pos hzero] at hlist
    refine h.of_session_same (fun _ => rfl) (by rw [hlist]) fun q => ?_
    by_cases hq : q = p
    · subst hq
      exact iff_of_false (fun hlimits => hafter.1 hlimits hzero) hnot
    · rw [State.limits_keepalive_iff, State.limits_keepalive_iff, State.attached_eq, State.attached_eq, hother q hq]
  · rw [if_neg hzero] at hlist
    have hnew : ∀ o : DeadlineObject, o ≠ .keepalive p ∧ o.Required → (s.startSession p).limits o → s.limits o :=
      limits_of_session_ne (s := s.startSession p) (t := s) (fun _ => rfl) (fun q hq => (hother q hq).symm)
        fun hp => absurd rfl hp.1
    have hkeep : ∀ o, o ≠ .keepalive p → s.limits o → (s.startSession p).limits o :=
      limits_of_session_ne (s := s) (t := s.startSession p) (fun _ => rfl) hother fun hp => absurd rfl hp
    exact h.of_placed hlist (hafter.2 hzero) hnot hkeep hnew

theorem DeadlinesMatch.depart {s : State} (h : DeadlinesMatch s) (p : Port) (c : Cause) : DeadlinesMatch (s.depart p c) := by
  have hother : ∀ q, q ≠ p → (s.depart p c).session q = s.session q := fun q hq => by rw [State.depart_session, if_neg hq]
  refine h.of_removed (s.depart_deadlines p c) (limits_of_session_ne (s.depart_lock p c) hother fun hp => absurd rfl hp)
    (limits_of_session_ne (fun i => (s.depart_lock p c i).symm) (fun q hq => (hother q hq).symm) fun hp => absurd rfl hp.1)
    fun _ hlimits => ?_
  have hlive := hlimits.1
  rw [s.depart_attached, if_pos rfl] at hlive
  exact absurd hlive nofun

theorem DeadlinesMatch.resetWindow {s : State} (h : DeadlinesMatch s) {p : Port} (hnot : s.attached p = false) :
    DeadlinesMatch (s.resetWindow p) := by
  refine h.of_session_same (fun _ => rfl) rfl fun q => ?_
  rw [State.limits_keepalive_iff, State.limits_keepalive_iff, State.resetWindow_attached, State.resetWindow_session]
  by_cases hq : q = p
  · subst hq
    rw [hnot]
    exact iff_of_false (fun hlimits => absurd hlimits.1 nofun) fun hlimits => absurd hlimits.1 nofun
  · rw [if_neg hq]

theorem DeadlinesMatch.resetPort {s : State} (h : DeadlinesMatch s) (p : Port) : DeadlinesMatch (s.resetPort p) := by
  cases hlive : s.attached p with
  | true =>
    rw [State.resetPort_of_attached hlive]
    exact (h.depart p .portReset).resetWindow (by rw [s.depart_attached, if_pos rfl])
  | false =>
    rw [State.resetPort_of_not_attached hlive]
    exact h.resetWindow hlive

theorem DeadlinesMatch.writeDsum {s : State} (h : DeadlinesMatch s) (p : Port) (v : Word) :
    DeadlinesMatch (s.writeDsum p v) := by
  refine h.of_session_same (fun _ => rfl) rfl fun q => ?_
  rw [State.limits_keepalive_iff, State.limits_keepalive_iff, State.writeDsum_attached, State.writeDsum_session]
  split_ifs with hq
  · rw [hq]
  · rfl

theorem DeadlinesMatch.renewKeepalive {s : State} (h : DeadlinesMatch s) (p : Port) :
    DeadlinesMatch (s.renewKeepalive p) := by
  unfold State.renewKeepalive
  split_ifs with hlimits
  · rw [Bool.and_eq_true, bne_iff_ne] at hlimits
    exact h.moveDeadline (o := .keepalive p) hlimits _
  · exact h

theorem DeadlinesMatch.writeKalive {s : State} (h : DeadlinesMatch s) (p : Port) (v : Word) :
    DeadlinesMatch (s.writeKalive p v) := by
  have hself := s.writeKalive_session p p v
  rw [if_pos rfl] at hself
  have hother : ∀ q, q ≠ p → (s.writeKalive p v).session q = s.session q := fun q hq => by
    rw [State.writeKalive_session, if_neg hq]
  have hlock : ∀ i, (s.writeKalive p v).lock i = s.lock i := fun i => by rw [State.writeKalive_frame]; rfl
  have hafter : (s.writeKalive p v).limits (.keepalive p) ↔ s.attached p = true ∧ v ≠ 0 := by
    rw [State.limits_keepalive_iff, State.writeKalive_attached, hself]
  have hkeep : ∀ o, o ≠ .keepalive p → s.limits o → (s.writeKalive p v).limits o :=
    limits_of_session_ne hlock hother fun hp => absurd rfl hp
  have hnew : ∀ o : DeadlineObject, o ≠ .keepalive p ∧ o.Required → (s.writeKalive p v).limits o → s.limits o :=
    limits_of_session_ne (fun i => (hlock i).symm) (fun q hq => (hother q hq).symm) fun hp => absurd rfl hp.1
  cases hlive : s.attached p with
  | false =>
    have hlist : (s.writeKalive p v).deadlines = s.deadlines := by
      unfold State.writeKalive
      simp [hlive]
    refine h.of_session_same hlock (by rw [hlist]) fun q => ?_
    by_cases hq : q = p
    · subst hq
      rw [hafter, State.limits_keepalive_iff, hlive]
      exact iff_of_false (fun hlimits => absurd hlimits.1 nofun) fun hlimits => absurd hlimits.1 nofun
    · rw [State.limits_keepalive_iff, State.limits_keepalive_iff, State.writeKalive_attached, hother q hq]
  | true =>
    by_cases hzero : v = 0
    · have hlist : (s.writeKalive p v).deadlines = s.deadlines.filter fun d => d.object != .keepalive p := by
        unfold State.writeKalive
        rw [if_pos hlive, if_pos hzero]
        rfl
      exact h.of_removed hlist hkeep hnew fun _ hlimits => (hafter.1 hlimits).2 hzero
    · have hlist : (s.writeKalive p v).deadlines = placeDeadline s.tick ⟨.keepalive p, s.after v, false⟩
          (s.deadlines.filter fun d => d.object != .keepalive p) := by
        unfold State.writeKalive
        rw [if_pos hlive, if_neg hzero]
        rfl
      exact h.of_moved hlist (hafter.2 ⟨hlive, hzero⟩) (fun hne => absurd rfl hne) hkeep
        fun o ho hlimits => ⟨ho.1, hnew o ho hlimits⟩

theorem DeadlinesMatch.finalStep {s : State} (h : DeadlinesMatch s) (hsweep : SweepQueueSound s) {p : Port}
    (hengine : s.engine = .busy p .final) : DeadlinesMatch (s.reportSweepEnd p).nextSweep := by
  have hframe := (s.reportSweepEnd p).nextSweep_frame
  refine h.of_session_same (fun i => by rw [hframe]; rfl) (by rw [hframe]; rfl) fun q => ?_
  have hinterval : ((s.reportSweepEnd p).nextSweep.session q).keepalive = (s.session q).keepalive := by
    rw [State.nextSweep_session, State.reportSweepEnd_session]
    unfold Session.afterSweepOf
    split_ifs <;> rfl
  rw [State.limits_keepalive_iff, State.limits_keepalive_iff, hinterval]
  exact and_congr_left fun _ => ⟨State.finalStep_attached, hsweep.finalStep_attached hengine⟩

/-! ### Every block -/

theorem DeadlinesMatch.blockStep {s t : State} (h : DeadlinesMatch s) (htable : LockTableSound s)
    (hsweep : SweepQueueSound s)
    (hstep : BlockStep s t) : DeadlinesMatch t := by
  cases hstep with
  | lock k p t hmove => exact h.lockMove htable hmove
  | barrier r b k t hlive hmove => rw [BarriersOnly.of_barrierMove hmove]; exact h
  | attach p hdetached => exact h.startSession hdetached
  | depart p c => exact h.depart p c
  | portReset p => exact h.resetPort p
  | summary p v => exact h.writeDsum p v
  | interval p v => exact h.writeKalive p v
  | cap p v => rw [State.writeWcap_frame]; exact h
  | renewKeepalive p => exact h.renewKeepalive p
  | tick =>
    refine h.of_session_same (fun _ => rfl) ?_ fun _ => .rfl
    exact List.map_map
  | stale o k rest hlist hgone => exact absurd (h.limits (by rw [hlist]; exact List.mem_cons_self)) hgone
  | lockVisit p i =>
    have hvisited : DeadlinesMatch (s.visitLock p i) := h.lockSteps (.visitLock s p i)
    exact hvisited
  | barrierVisit p b =>
    refine h.of_session_same (fun i => ?_) ?_ fun q => ?_
    · exact s.visitBarrier_lock p b i
    · exact congrArg (List.map _) (s.visitBarrier_deadlines p b)
    · rw [State.limits_keepalive_iff, State.limits_keepalive_iff]
      exact iff_of_eq (congrArg₂ And (congrArg (· = true) (s.visitBarrier_attached p b q))
        (congrArg (fun r => Session.keepalive r ≠ 0) (s.visitBarrier_session p b q)))
  | finalStep p hengine => exact h.finalStep hsweep hengine
  | deviceReset => exact DeadlinesMatch.reset
  | _ => exact h

theorem DeadlinesMatch.hostOnly {u t : State} (h : DeadlinesMatch u) (hhost : HostOnly u t) : DeadlinesMatch t := by
  rw [hhost]
  exact h

end Sys2Proof.Machine
end

section
/-! PROOFS. Every step keeps the deadline list matched to the objects that have limits. -/

open Sys2Proof Sys2Proof.Machine

/-- Settles O11: each event takes out the entry of an object whose limit ends and places one where a limit begins. -/
theorem deadlinesMatchIsKept : Obligations.DeadlinesMatchIsKept := by
  intro s t hmatch htable hsweep hstep
  obtain ⟨rest, u, hblock, hhost⟩ := BlockStep.of_step hstep
  exact (DeadlinesMatch.blockStep (s := { s with pending := rest }) hmatch htable hsweep hblock).hostOnly hhost
end

section
/-! PROOFS. The reservation accounts and the bound of 16 entries in every step (R77): what a port's count changes by is what
the event's lock or barrier owes the port less, or more. -/

namespace Sys2Proof.Machine

/-! ### What a lock and a barrier owe a port -/

/-- R65: the lock's exclusive hold is port `p`'s and runs under a lease. -/
def LockEntry.leaseHeldBy (e : LockEntry) (p : Port) : Bool :=
  e.leasePeriod != 0 && e.exclusiveHolder.any fun r => r.port == p

/-- R77: the reservations of port `p` that lock entry `e` accounts for. -/
def LockEntry.owed (e : LockEntry) (p : Port) : Nat :=
  ((e.queue.filter fun w => w.requester.port == p).map (·.reservations)).sum + if e.leaseHeldBy p = true then 1 else 0

/-- R77, R97: the reservations of port `p` that barrier entry `x` accounts for. -/
def Barrier.owed (x : Barrier) (p : Port) : Nat := x.arrived.countP fun r => r.port == p

/-- R77: the reservations of port `p` that all its objects account for. -/
def State.owed (s : State) (p : Port) : Nat := s.recordReservations p + s.leaseReservations p + s.arrivalReservations p

theorem inboxRoom_iff (s : State) :
    InboxRoom s ↔
      ∀ p, (s.inbox p).reserved = s.owed p ∧ (s.inbox p).entries.length + (s.inbox p).reserved ≤ 16 := .rfl

theorem countP_split {s t : State} (f : LockEntry → Bool) {i : LockIndex} (hother : ∀ j, j ≠ i → t.lock j = s.lock j) :
    ∃ n, ((List.finRange 64).countP fun j => f (s.lock j)) = n + (if f (s.lock i) = true then 1 else 0) ∧
      ((List.finRange 64).countP fun j => f (t.lock j)) = n + (if f (t.lock i) = true then 1 else 0) := by
  have hsplit : (List.finRange 64).Perm (i :: (List.finRange 64).erase i) := List.perm_cons_erase (List.mem_finRange i)
  refine ⟨((List.finRange 64).erase i).countP fun j => f (s.lock j), ?_, ?_⟩
  · rw [hsplit.countP_eq, List.countP_cons]
  · rw [hsplit.countP_eq, List.countP_cons]
    refine congrArg (· + _) (List.countP_congr fun j hj => ?_)
    rw [hother j ((List.nodup_finRange 64).mem_erase_iff.1 hj).1]

/-- Only lock `i` changes what it owes. -/
theorem State.owed_of_lock {s t : State} {i : LockIndex} (hother : ∀ j, j ≠ i → t.lock j = s.lock j)
    (hbarrier : ∀ b, t.barrier b = s.barrier b) (p : Port) :
    ∃ n, s.owed p = (s.lock i).owed p + n ∧ t.owed p = (t.lock i).owed p + n := by
  obtain ⟨l, hs, ht⟩ := State.records_perm i hother
  obtain ⟨n, hns, hnt⟩ := countP_split (·.leaseHeldBy p) hother
  have hrecords : ∀ {q r : List WaiterRecord}, q.Perm (r ++ l) →
      ((q.filter fun w => w.requester.port == p).map (·.reservations)).sum =
        ((r.filter fun w => w.requester.port == p).map (·.reservations)).sum +
          ((l.filter fun w => w.requester.port == p).map (·.reservations)).sum := fun {q r} hperm => by
    rw [((hperm.filter _).map _).sum_eq, List.filter_append, List.map_append, List.sum_append]
  have harrivals : t.arrivalReservations p = s.arrivalReservations p := by
    unfold State.arrivalReservations
    simp only [hbarrier]
  refine ⟨((l.filter fun w => w.requester.port == p).map (·.reservations)).sum + n + s.arrivalReservations p, ?_, ?_⟩
  · have hlease : s.leaseReservations p = n + if (s.lock i).leaseHeldBy p = true then 1 else 0 := hns
    rw [State.owed, State.recordReservations, hrecords hs, hlease, LockEntry.owed]
    omega
  · have hlease : t.leaseReservations p = n + if (t.lock i).leaseHeldBy p = true then 1 else 0 := hnt
    rw [State.owed, State.recordReservations, hrecords ht, hlease, LockEntry.owed, harrivals]
    omega

/-- Only barrier `b` changes what it owes. -/
theorem State.owed_of_barrier {s t : State} {b : BarrierIndex} (hlock : ∀ i, t.lock i = s.lock i)
    (hother : ∀ c, c ≠ b → t.barrier c = s.barrier c) (p : Port) :
    ∃ n, s.owed p = (s.barrier b).owed p + n ∧ t.owed p = (t.barrier b).owed p + n := by
  have hsplit : (List.finRange 8).Perm (b :: (List.finRange 8).erase b) := List.perm_cons_erase (List.mem_finRange b)
  have hrecords : t.recordReservations p = s.recordReservations p := by
    have hsame : t.records = s.records := State.records_of_queues fun j => by rw [hlock]
    unfold State.recordReservations
    rw [hsame]
  have hlease : t.leaseReservations p = s.leaseReservations p := by
    unfold State.leaseReservations
    simp only [hlock]
  have hsum : ∀ u : State, u.arrivalReservations p =
      (u.barrier b).owed p + (((List.finRange 8).erase b).map fun c => (u.barrier c).owed p).sum := fun u => by
    unfold State.arrivalReservations
    rw [(hsplit.map _).sum_eq, List.map_cons, List.sum_cons]
    rfl
  have hrest : (((List.finRange 8).erase b).map fun c => (t.barrier c).owed p).sum =
      (((List.finRange 8).erase b).map fun c => (s.barrier c).owed p).sum := by
    refine congrArg List.sum (List.map_congr_left fun c hc => ?_)
    rw [hother c ((List.nodup_finRange 8).mem_erase_iff.1 hc).1]
  refine ⟨s.recordReservations p + s.leaseReservations p +
    (((List.finRange 8).erase b).map fun c => (s.barrier c).owed p).sum, ?_, ?_⟩
  · rw [State.owed, hsum]
    omega
  · rw [State.owed, hsum, hrest, hrecords, hlease]
    omega

theorem LockEntry.owed_erase {e : LockEntry} {w : WaiterRecord} (hmem : w ∈ e.queue) (p : Port) :
    e.owed p =
      (if w.requester.port = p then w.reservations else 0) + ({ e with queue := e.queue.erase w } : LockEntry).owed p := by
  have hperm := (((List.perm_cons_erase hmem).filter fun x => x.requester.port == p).map (·.reservations)).sum_eq
  have hlease : ({ e with queue := e.queue.erase w } : LockEntry).leaseHeldBy p = e.leaseHeldBy p := rfl
  rw [LockEntry.owed, LockEntry.owed, hperm, hlease, List.filter_cons]
  by_cases hp : w.requester.port = p
  · simp only [hp, beq_self_eq_true, if_true, List.map_cons, List.sum_cons, Nat.add_assoc]
  · simp only [beq_iff_eq, hp, if_false, Nat.zero_add]

theorem LockEntry.owed_append (e : LockEntry) (w : WaiterRecord) (p : Port) :
    ({ e with queue := e.queue ++ [w] } : LockEntry).owed p =
      e.owed p + if w.requester.port = p then w.reservations else 0 := by
  have hlease : ({ e with queue := e.queue ++ [w] } : LockEntry).leaseHeldBy p = e.leaseHeldBy p := rfl
  rw [LockEntry.owed, LockEntry.owed, hlease, List.filter_append, List.map_append, List.sum_append]
  by_cases hp : w.requester.port = p
  · simp only [hp, List.filter_cons, List.filter_nil, beq_self_eq_true, if_true, List.map_cons, List.map_nil, List.sum_cons,
      List.sum_nil]
    omega
  · simp only [List.filter_cons, List.filter_nil, beq_iff_eq, hp, if_false, List.map_nil, List.sum_nil]
    omega

theorem LockEntry.leaseHeldBy_of_none {e : LockEntry} (h : e.exclusiveHolder = none) (p : Port) :
    e.leaseHeldBy p = false := by
  simp [LockEntry.leaseHeldBy, h]

theorem LockEntry.leaseHeldBy_of_period_zero {e : LockEntry} (h : e.leasePeriod = 0) (p : Port) :
    e.leaseHeldBy p = false := by
  simp [LockEntry.leaseHeldBy, h]

theorem LockEntry.leaseHeldBy_of_some {e : LockEntry} {r : Requester} (h : e.exclusiveHolder = some r)
    (hperiod : e.leasePeriod ≠ 0)
    (p : Port) : e.leaseHeldBy p = true ↔ p = r.port := by
  simp only [LockEntry.leaseHeldBy, h, Option.any_some, Bool.and_eq_true, bne_iff_ne, beq_iff_eq]
  exact ⟨fun ⟨_, hp⟩ => hp.symm, fun hp => ⟨hperiod, hp.symm⟩⟩

/-- What a lock owes is read from its queue and its lease. -/
theorem LockEntry.owed_congr {e f : LockEntry} {p : Port} (hqueue : f.queue = e.queue)
    (hlease : f.leaseHeldBy p = e.leaseHeldBy p) : f.owed p = e.owed p := by
  rw [LockEntry.owed, LockEntry.owed, hqueue, hlease]

/-- R77: the end of a lease takes one reservation of its holder's port off what the lock owes. -/
theorem LockEntry.owed_of_lease_ended {e f : LockEntry} {r : Requester} (hholder : e.exclusiveHolder = some r)
    (hperiod : e.leasePeriod ≠ 0) (hqueue : f.queue = e.queue) (hnone : f.exclusiveHolder = none) (p : Port) :
    e.owed p = f.owed p + if p = r.port then 1 else 0 := by
  rw [LockEntry.owed, LockEntry.owed, hqueue, LockEntry.leaseHeldBy_of_none hnone]
  simp only [LockEntry.leaseHeldBy_of_some hholder hperiod, Bool.false_eq_true, if_false, Nat.add_zero]

/-! ### One lock or one barrier changes -/

theorem InboxRoom.lock_owed_le {s : State} (h : InboxRoom s) (i : LockIndex) (p : Port) :
    (s.lock i).owed p ≤ (s.inbox p).reserved := by
  obtain ⟨n, hs, -⟩ := State.owed_of_lock (s := s) (t := s) (i := i) (fun _ _ => rfl) (fun _ => rfl) p
  obtain ⟨hreserved, -⟩ := (inboxRoom_iff s).1 h p
  omega

theorem InboxRoom.barrier_owed_le {s : State} (h : InboxRoom s) (b : BarrierIndex) (p : Port) :
    (s.barrier b).owed p ≤ (s.inbox p).reserved := by
  obtain ⟨n, hs, -⟩ := State.owed_of_barrier (s := s) (t := s) (b := b) (fun _ => rfl) (fun _ _ => rfl) p
  obtain ⟨hreserved, -⟩ := (inboxRoom_iff s).1 h p
  omega

theorem InboxRoom.room {s : State} (h : InboxRoom s) (p : Port) : (s.inbox p).entries.length + (s.inbox p).reserved ≤ 16 :=
  (h p).2

/-- An event at lock `i` that touches the inbox of port `p` only. -/
theorem InboxRoom.of_lock {s t : State} (h : InboxRoom s) {i : LockIndex} {p : Port} {b : Inbox}
    (hother : ∀ j, j ≠ i → t.lock j = s.lock j) (hbarrier : ∀ b, t.barrier b = s.barrier b) (hinbox : OnlyInbox p b s t)
    (howed : ∀ q, q ≠ p → (t.lock i).owed q = (s.lock i).owed q)
    (hmoved : b.reserved + (s.lock i).owed p = (s.inbox p).reserved + (t.lock i).owed p)
    (hroom : b.entries.length + b.reserved ≤ 16) : InboxRoom t := by
  intro q
  obtain ⟨n, hs, ht⟩ := State.owed_of_lock hother hbarrier q
  obtain ⟨hreserved, hbound⟩ := (inboxRoom_iff s).1 h q
  obtain ⟨rfl, hothers⟩ := hinbox
  change (t.inbox q).reserved = t.owed q ∧ _
  by_cases hq : q = p
  · subst hq
    exact ⟨by omega, hroom⟩
  · rw [hothers q hq]
    have hsame := howed q hq
    exact ⟨by omega, hbound⟩

/-- An event at barrier `b`. -/
theorem InboxRoom.of_barrier {s t : State} (h : InboxRoom s) {b : BarrierIndex} {x : Barrier}
    (hlock : ∀ i, t.lock i = s.lock i)
    (honly : OnlyBarrier b x s t)
    (hmoved : ∀ q, (t.inbox q).reserved + (s.barrier b).owed q = (s.inbox q).reserved + x.owed q ∧
        (t.inbox q).entries.length + (t.inbox q).reserved ≤ 16) : InboxRoom t := by
  obtain ⟨rfl, hother⟩ := honly
  intro q
  obtain ⟨n, hs, ht⟩ := State.owed_of_barrier hlock hother q
  obtain ⟨hreserved, hbound⟩ := (inboxRoom_iff s).1 h q
  obtain ⟨hdelta, hroom⟩ := hmoved q
  change (t.inbox q).reserved = t.owed q ∧ _
  exact ⟨by omega, hroom⟩

/-- No object changes, and no count; entries may leave. -/
theorem InboxRoom.of_same {s t : State} (h : InboxRoom s) (hlock : ∀ i, t.lock i = s.lock i)
    (hbarrier : ∀ b, t.barrier b = s.barrier b) (hreserved : ∀ q, (t.inbox q).reserved = (s.inbox q).reserved)
    (hentries : ∀ q, (t.inbox q).entries.length ≤ (s.inbox q).entries.length) : InboxRoom t := by
  intro q
  obtain ⟨hcount, hbound⟩ := (inboxRoom_iff s).1 h q
  obtain ⟨n, hs, ht⟩ := State.owed_of_lock (i := 0) (fun j _ => hlock j) hbarrier q
  have hsame := hreserved q
  have hfewer := hentries q
  rw [hlock] at ht
  change (t.inbox q).reserved = t.owed q ∧ (t.inbox q).entries.length + (t.inbox q).reserved ≤ 16
  omega

/-! ### The steps at one lock -/

theorem State.dropReservations_inbox (s : State) (p : Port) (n : Nat) :
    OnlyInbox p { s.inbox p with reserved := (s.inbox p).reserved - n } s (s.dropReservations p n) :=
  .of_inboxes_eq rfl

theorem OnlyInbox.trans {s t u : State} {p : Port} {x y : Inbox} (h : OnlyInbox p x s t) (h' : OnlyInbox p y t u) :
    OnlyInbox p y s u :=
  ⟨h'.1, fun q hq => (h'.2 q hq).trans (h.2 q hq)⟩

theorem State.deliverReserved_onlyInbox (s : State) (p : Port) (e : InboxEntry) :
    OnlyInbox p ⟨(s.inbox p).entries ++ (if s.attached p then [e] else []), (s.inbox p).reserved - 1⟩ s (s.deliverReserved p e) :=
  ⟨s.deliverReserved_inbox_self p e, fun _ hq => s.deliverReserved_inbox_ne p e hq⟩

/-- R63: the inbox of the port whose wait has expired. -/
theorem State.expireRecord_inbox {s : State} {w : WaiterRecord} (hlive : s.attached w.requester.port = true)
    (i : LockIndex) :
    ∃ e, OnlyInbox w.requester.port
      ⟨(s.inbox w.requester.port).entries ++ [e], (s.inbox w.requester.port).reserved - 1 - (w.reservations - 1)⟩ s
      (s.expireRecord i w) := by
  have hdelivered := (s.freeRecord i w).deliverReserved_onlyInbox w.requester.port
    ⟨w.requester.agent, .waitExpired (s.handleOf i) w.mode w.ticket⟩
  have hdropped := State.dropReservations_inbox ((s.freeRecord i w).deliverReserved w.requester.port
    ⟨w.requester.agent, .waitExpired (s.handleOf i) w.mode w.ticket⟩) w.requester.port (w.reservations - 1)
  rw [hdelivered.1] at hdropped
  rw [State.freeRecord_attached, hlive, if_pos rfl] at hdelivered hdropped
  exact ⟨_, OnlyInbox.trans (s := s) hdelivered hdropped⟩

/-- R41, R42: the inbox of the port that is granted. -/
theorem State.grantedHead_inbox {s : State} {w : WaiterRecord} (hlive : s.attached w.requester.port = true) (i : LockIndex) :
    ∃ e, OnlyInbox w.requester.port
      ⟨(s.inbox w.requester.port).entries ++ [e], (s.inbox w.requester.port).reserved - 1⟩ s (s.grantedHead i w) := by
  rw [State.grantedHead_of_attached hlive i]
  exact ⟨_, .of_inboxes_eq rfl⟩

theorem State.revoke_inbox (s : State) (i : LockIndex) (r : Requester) (rest : List Deadline) :
    ∃ l, l.length ≤ 1 ∧
      OnlyInbox r.port ⟨(s.inbox r.port).entries ++ l, (s.inbox r.port).reserved - 1⟩ s (s.revoke i r rest) := by
  refine ⟨if s.attached r.port then [⟨r.agent, .leaseRevoked (s.handleOf i)⟩] else [], ?_, ?_⟩
  · split_ifs <;> simp
  · exact State.deliverReserved_onlyInbox _ r.port ⟨r.agent, .leaseRevoked (s.handleOf i)⟩

theorem State.endHold_inbox (s : State) (i : LockIndex) (r : Requester) (shared : List Requester) (mark : Mark) :
    OnlyInbox r.port
      { s.inbox r.port with reserved := (s.inbox r.port).reserved - if (s.lock i).leasePeriod = 0 then 0 else 1 } s
      (s.endHold i r shared mark) := by
  rw [State.endHold, State.endLease, State.setLock_lock_self]
  split_ifs
  · exact ⟨rfl, fun _ _ => rfl⟩
  · exact .of_inboxes_eq rfl

/-- R29: a record holds the reservations its grant needs. -/
theorem LockEntry.StepSound.reservations {e : LockEntry} {i : LockIndex} (h : e.StepSound i) {w : WaiterRecord}
    (hw : w ∈ e.queue) :
    w.reservations = reservationsNeeded e w.mode := by
  obtain ⟨-, ⟨hrecords, -⟩, -⟩ := h
  obtain ⟨-, -, hreserved⟩ := hrecords w hw
  exact hreserved

theorem LockEntry.owed_grantTo_of_not_leases {e : LockEntry} {m : Mode} (haccepts : e.Accepts m) (hlease : ¬ e.Leases m)
    (r : Requester) (p : Port) : (e.grantTo r m).owed p = e.owed p := by
  refine LockEntry.owed_congr (e.grantTo_same r m).1 ?_
  obtain ⟨hnone, -⟩ := haccepts
  rw [LockEntry.leaseHeldBy_of_none hnone]
  cases m with
  | exclusive =>
    have hzero : e.leasePeriod = 0 := by
      by_contra hperiod
      exact hlease ⟨rfl, hperiod⟩
    exact LockEntry.leaseHeldBy_of_period_zero (e := e.grantTo r .exclusive) hzero p
  | shared => exact LockEntry.leaseHeldBy_of_none hnone p

theorem LockEntry.owed_grantTo_of_leases {e : LockEntry} {m : Mode} (haccepts : e.Accepts m) (hlease : e.Leases m)
    (r : Requester) (p : Port) : (e.grantTo r m).owed p = e.owed p + if p = r.port then 1 else 0 := by
  obtain ⟨rfl, hperiod⟩ := hlease
  exact LockEntry.owed_of_lease_ended (e := e.grantTo r .exclusive) (f := e) rfl hperiod rfl haccepts.1 p

theorem InboxRoom.grant {s : State} (h : InboxRoom s) {i : LockIndex} (hsound : (s.lock i).StepSound i) {w : WaiterRecord}
    {rest : List WaiterRecord} (hqueue : (s.lock i).queue = w :: rest) (hlive : s.attached w.requester.port = true)
    (haccepts : (s.lock i).Accepts w.mode) : InboxRoom (s.grantHead i w) := by
  have hstep : LockStep i s (s.grantHead i w) := .grant w rest hqueue hlive haccepts
  have hmem : w ∈ (s.lock i).queue := hqueue ▸ List.mem_cons_self
  have hrest : (s.lock i).queue.erase w = rest := by rw [hqueue, List.erase_cons_head]
  have hentry := State.grantHead_lock_self hqueue
  have hreserved := hsound.reservations hmem
  have howed := LockEntry.owed_erase hmem
  have hle := h.lock_owed_le i w.requester.port
  have hroom := h.room w.requester.port
  obtain ⟨e, hinbox⟩ := State.grantedHead_inbox hlive i
  rw [hrest] at howed
  rw [howed, if_pos rfl] at hle
  rw [reservationsNeeded_eq] at hreserved
  by_cases hlease : (s.lock i).Leases w.mode
  · have hgranted := LockEntry.owed_grantTo_of_leases (e := { s.lock i with queue := rest }) haccepts hlease w.requester
    have htwo : w.reservations = 2 := hreserved.trans (if_pos hlease)
    rw [htwo] at howed hle
    refine h.of_lock (fun j hj => hstep.lock_ne hj) (QueuesOnly.of_lockStep hstep).barrier
      (p := w.requester.port)
      (b := ⟨(s.inbox w.requester.port).entries ++ [e], (s.inbox w.requester.port).reserved - 1⟩) ?_ (fun q hq => ?_) ?_ ?_
    · rw [State.grantHead_of_leases hlease]
      exact hinbox
    · rw [hentry, hgranted, howed, if_neg hq, if_neg (Ne.symm hq), Nat.zero_add, Nat.add_zero]
    · rw [hentry, hgranted, howed, if_pos rfl, if_pos rfl]
      dsimp only
      omega
    · rw [List.length_append, List.length_singleton]
      dsimp only
      omega
  · have hgranted := LockEntry.owed_grantTo_of_not_leases (e := { s.lock i with queue := rest }) haccepts hlease w.requester
    have hone : w.reservations = 1 := hreserved.trans (if_neg hlease)
    rw [hone] at howed hle
    refine h.of_lock (fun j hj => hstep.lock_ne hj) (QueuesOnly.of_lockStep hstep).barrier
      (p := w.requester.port)
      (b := ⟨(s.inbox w.requester.port).entries ++ [e], (s.inbox w.requester.port).reserved - 1⟩) ?_ (fun q hq => ?_) ?_ ?_
    · rw [State.grantHead_of_not_leases hlease, hone]
      rw [State.dropReservations_zero]
      exact hinbox
    · rw [hentry, hgranted, howed, if_neg (Ne.symm hq), Nat.zero_add]
    · rw [hentry, hgranted, howed, if_pos rfl]
      dsimp only
      omega
    · rw [List.length_append, List.length_singleton]
      dsimp only
      omega

/-- Record `w` leaves the queue with all its reservations; one of them may become an entry. -/
theorem InboxRoom.of_freed {s t : State} (h : InboxRoom s) {i : LockIndex} {w : WaiterRecord} (hmem : w ∈ (s.lock i).queue)
    (hstep : LockStep i s t) (hentry : t.lock i = { s.lock i with queue := (s.lock i).queue.erase w }) {l : List InboxEntry}
    (hl : l.length ≤ w.reservations)
    (hinbox : OnlyInbox w.requester.port
      ⟨(s.inbox w.requester.port).entries ++ l, (s.inbox w.requester.port).reserved - w.reservations⟩ s t) : InboxRoom t := by
  have howed := LockEntry.owed_erase hmem
  have hle := h.lock_owed_le i w.requester.port
  have hroom := h.room w.requester.port
  rw [howed, if_pos rfl] at hle
  refine h.of_lock (fun j hj => hstep.lock_ne hj) (QueuesOnly.of_lockStep hstep).barrier hinbox (fun q hq => ?_) ?_ ?_
  · rw [hentry, howed, if_neg (Ne.symm hq), Nat.zero_add]
  · rw [hentry, howed, if_pos rfl]
    dsimp only
    omega
  · rw [List.length_append]
    dsimp only
    omega

/-- The exclusive hold of requester `r` ends under a lease, whose reservation may become an entry. -/
theorem InboxRoom.of_leaseEnded {s t : State} (h : InboxRoom s) {i : LockIndex} {r : Requester} (hstep : LockStep i s t)
    (hholder : (s.lock i).exclusiveHolder = some r) (hperiod : (s.lock i).leasePeriod ≠ 0)
    (hqueue : (t.lock i).queue = (s.lock i).queue) (hnone : (t.lock i).exclusiveHolder = none) {l : List InboxEntry}
    (hl : l.length ≤ 1)
    (hinbox : OnlyInbox r.port ⟨(s.inbox r.port).entries ++ l, (s.inbox r.port).reserved - 1⟩ s t) : InboxRoom t := by
  have howed := LockEntry.owed_of_lease_ended hholder hperiod hqueue hnone
  have hle := h.lock_owed_le i r.port
  have hroom := h.room r.port
  rw [howed, if_pos rfl] at hle
  refine h.of_lock (fun j hj => hstep.lock_ne hj) (QueuesOnly.of_lockStep hstep).barrier hinbox (fun q hq => ?_) ?_ ?_
  · rw [howed, if_neg hq, Nat.add_zero]
  · rw [howed, if_pos rfl]
    dsimp only
    omega
  · rw [List.length_append]
    dsimp only
    omega

/-- The lock owes what it owed, and the inboxes stay. -/
theorem InboxRoom.of_lock_same {s t : State} (h : InboxRoom s) {i : LockIndex} (hother : ∀ j, j ≠ i → t.lock j = s.lock j)
    (hbarrier : ∀ b, t.barrier b = s.barrier b) (hinbox : ∀ q, t.inbox q = s.inbox q)
    (howed : ∀ q, (t.lock i).owed q = (s.lock i).owed q) : InboxRoom t :=
  h.of_lock hother hbarrier (p := 0) (b := s.inbox 0) ⟨hinbox 0, fun q _ => hinbox q⟩ (fun q _ => howed q) (by rw [howed])
    (h.room 0)

theorem InboxRoom.lockStep {i : LockIndex} {s t : State} (h : InboxRoom s) (hsound : (s.lock i).StepSound i)
    (hmatch : DeadlinesMatch s) (hstep : LockStep i s t) : InboxRoom t := by
  have hother := fun j (hj : j ≠ i) => hstep.lock_ne hj
  have hbarrier := (QueuesOnly.of_lockStep hstep).barrier
  have hwhole := hstep
  cases hstep with
  | discard w hmem =>
    refine h.of_freed hmem hwhole (l := []) ?_ (Nat.zero_le _) ?_
    · rw [State.discardRecord_lock, if_pos rfl]
    · rw [List.append_nil]
      exact .of_inboxes_eq rfl
  | grant w rest hqueue hlive haccepts => exact h.grant hsound hqueue hlive haccepts
  | expire w hmem hlive =>
    have hone : 1 ≤ w.reservations := by
      rw [hsound.reservations hmem]
      exact one_le_reservationsNeeded _ _
    obtain ⟨e, hinbox⟩ := State.expireRecord_inbox hlive i
    have hdropped : (s.inbox w.requester.port).reserved - 1 - (w.reservations - 1) =
        (s.inbox w.requester.port).reserved - w.reservations := by omega
    rw [hdropped] at hinbox
    exact h.of_freed hmem hwhole (s.expireRecord_lock i w) (l := [e]) hone hinbox
  | revoke r k rest hlist hholder =>
    have hlimits : s.limits (.lease i) := hmatch.limits (by rw [hlist]; exact List.mem_cons_self)
    have hentry := s.revoke_lock i r rest
    obtain ⟨l, hl, hinbox⟩ := s.revoke_inbox i r rest
    exact h.of_leaseEnded hwhole hholder hlimits.2 (by rw [hentry]) (by rw [hentry]) hl hinbox
  | endHold r shared mark hholder =>
    have hentry := s.endHold_lock i r shared mark
    have hinbox := s.endHold_inbox i r shared mark
    by_cases hperiod : (s.lock i).leasePeriod = 0
    · rw [if_pos hperiod, Nat.sub_zero] at hinbox
      have howed : ∀ q, ((s.endHold i r shared mark).lock i).owed q = (s.lock i).owed q := fun q => by
        rw [hentry]
        refine LockEntry.owed_congr rfl ?_
        rw [LockEntry.leaseHeldBy_of_period_zero hperiod]
        exact LockEntry.leaseHeldBy_of_none rfl q
      exact h.of_lock hother hbarrier hinbox (fun q _ => howed q) (by rw [howed]) (h.room r.port)
    · rw [if_neg hperiod] at hinbox
      refine h.of_leaseEnded hwhole hholder hperiod (by rw [hentry]) (by rw [hentry]) (l := []) (Nat.zero_le _) ?_
      rw [List.append_nil]
      exact hinbox
  | narrow shared allocator =>
    refine h.of_lock_same hother hbarrier (fun _ => rfl) fun q => ?_
    rw [State.setLock_lock_self]
    rfl

theorem InboxRoom.lockSteps {i : LockIndex} {s t : State} (h : InboxRoom s) (hsound : (s.lock i).StepSound i)
    (hmatch : DeadlinesMatch s) (hsteps : LockSteps i s t) : InboxRoom t := by
  obtain ⟨hroom, -, -⟩ : InboxRoom t ∧ (t.lock i).StepSound i ∧ DeadlinesMatch t :=
    hsteps.keeps (P := fun u => InboxRoom u ∧ (u.lock i).StepSound i ∧ DeadlinesMatch u) ⟨h, hsound, hmatch⟩
      fun _ _ hstep ⟨hu, hs, hm⟩ => ⟨hu.lockStep hs hm hstep, hstep.stepSound hs, hm.lockStep hstep⟩
  exact hroom

end Sys2Proof.Machine
end

section
/-! PROOFS. The reservation accounts, continued: the commands of the lock table and of the barrier unit, the barrier
visit and
the other blocks (R77, R97, R100, R104, R108). -/

namespace Sys2Proof.Machine

/-! ### The lock table's commands -/

/-- A lock without records and without an exclusive hold owes nothing. -/
theorem LockEntry.owed_of_unused {e : LockEntry} (hqueue : e.queue = []) (hnone : e.exclusiveHolder = none) (p : Port) :
    e.owed p = 0 := by
  rw [LockEntry.owed, hqueue, LockEntry.leaseHeldBy_of_none hnone]
  rfl

/-- One lock that owes nothing is rewritten, and owes nothing then. -/
theorem InboxRoom.of_unused {s t : State} (h : InboxRoom s) {i : LockIndex} {x : LockEntry} (honly : OnlyLock i x s t)
    (hbarrier : ∀ b, t.barrier b = s.barrier b) (hinbox : ∀ q, t.inbox q = s.inbox q)
    (hbefore : (s.lock i).queue = [] ∧ (s.lock i).exclusiveHolder = none) (hafter : x.queue = [] ∧ x.exclusiveHolder = none) :
    InboxRoom t := by
  obtain ⟨rfl, hother⟩ := honly
  refine h.of_lock_same hother hbarrier hinbox fun q => ?_
  rw [LockEntry.owed_of_unused hbefore.1 hbefore.2, LockEntry.owed_of_unused hafter.1 hafter.2]

theorem InboxRoom.wait {s : State} (h : InboxRoom s) {w : WaiterRecord}
    (hroom : (s.inbox w.requester.port).entries.length + (s.inbox w.requester.port).reserved + w.reservations ≤ 16)
    (limit : Word) :
    InboxRoom (s.withWaiter w limit) := by
  obtain ⟨hself, hother⟩ := s.withWaiter_lock w limit
  have howed := (s.lock w.lock).owed_append w
  have hinbox : OnlyInbox w.requester.port
      { s.inbox w.requester.port with reserved := (s.inbox w.requester.port).reserved + w.reservations } s
      (s.withWaiter w limit) := .of_inboxes_eq rfl
  refine h.of_lock hother (fun _ => rfl) hinbox (fun q hq => ?_) ?_ ?_
  · rw [hself, howed, if_neg (Ne.symm hq), Nat.add_zero]
  · rw [hself, howed, if_pos rfl]
    dsimp only
    omega
  · dsimp only
    omega

theorem InboxRoom.grantLease {s : State} (h : InboxRoom s) {i : LockIndex} {r : Requester} {m : Mode}
    (haccepts : (s.lock i).Accepts m) (hlease : (s.lock i).Leases m)
    (hroom : ¬ 16 ≤ (s.inbox r.port).entries.length + (s.inbox r.port).reserved) : InboxRoom (s.grantLease i r m) := by
  obtain ⟨hself, hother⟩ : OnlyLock i ((s.lock i).grantTo r m) s (s.grantLease i r m) := .of_locks_eq rfl
  have howed := LockEntry.owed_grantTo_of_leases haccepts hlease r
  have hinbox : OnlyInbox r.port { s.inbox r.port with reserved := (s.inbox r.port).reserved + 1 } s (s.grantLease i r m) :=
    .of_inboxes_eq rfl
  refine h.of_lock hother (fun _ => rfl) hinbox (fun q hq => ?_) ?_ ?_
  · rw [hself, howed, if_neg hq, Nat.add_zero]
  · rw [hself, howed, if_pos rfl]
    dsimp only
    omega
  · dsimp only
    omega

theorem InboxRoom.lockMove {s t : State} (h : InboxRoom s) (htable : LockTableSound s) (hmatch : DeadlinesMatch s)
    {k : Command}
    {p : Port} (hmove : LockMove s p k t) : InboxRoom t := by
  obtain ⟨⟨-, hlist⟩, hentries⟩ := id htable
  have hunused : ∀ i, (s.lock i).noHolder = true → (s.lock i).queue = [] →
      (s.lock i).queue = [] ∧ (s.lock i).exclusiveHolder = none := fun i hholder hqueue =>
    ⟨hqueue, ((LockEntry.noHolder_iff _).1 hholder).1⟩
  cases hmove with
  | allocate i k lease rest hlive hhead =>
    obtain ⟨-, -, hfree, -⟩ := hentries i
    obtain ⟨hholder, hqueue, -⟩ := hfree ((hlist i).1 (hhead ▸ List.mem_cons_self))
    have hnothing := hunused i hholder hqueue
    exact h.of_unused (x := { s.lock i with state := .allocated, kind := k, leasePeriod := lease, allocator := some p })
      (.of_locks_eq rfl) (fun _ => rfl) (fun _ => rfl) hnothing hnothing
  | retire i hallocated hindex huse =>
    obtain ⟨hholder, hqueue⟩ := (LockEntry.not_inUse_iff _).1 huse
    have hnothing := hunused i hholder hqueue
    exact h.of_unused (x := (s.lock i).retired) (.of_locks_eq rfl) (fun _ => rfl) (fun _ => rfl) hnothing hnothing
  | define a hflight huse =>
    obtain ⟨hholder, hqueue⟩ := (LockEntry.not_inUse_iff _).1 huse
    have hnothing := hunused _ hholder hqueue
    exact h.of_unused (.of_setLock s a.fixedIndex _) (fun _ => rfl) (fun _ => rfl) hnothing hnothing
  | grant r hh m hlive hpass hqueue haccepts hlease =>
    obtain ⟨hself, hother⟩ := OnlyLock.of_setLock s hh.index ((s.lock hh.index).grantTo r m)
    refine h.of_lock_same hother (fun _ => rfl) (fun _ => rfl) fun q => ?_
    rw [hself, LockEntry.owed_grantTo_of_not_leases haccepts hlease]
  | grantLease r hh m hlive hpass hqueue haccepts hlease hroom => exact h.grantLease haccepts hlease hroom
  | wait r hh m limit hport hlive hpass hwait hlimit hrecord hroom =>
    have hneed := ((s.inbox r.port).freeRoom_lt_iff (one_le_reservationsNeeded (s.lock hh.index) m)).not.1 hroom
    exact h.wait (not_lt.1 hneed) limit
  | renew => exact h
  | evaluated k i u hsteps => exact h.lockSteps ((LockEntry.sound_iff _ _).1 (hentries i)).2 hmatch hsteps.evaluate

/-! ### The barriers -/

/-- R95: the arrived set as a part of the member list. -/
def Barrier.ArrivalsListed (x : Barrier) : Prop := x.members.Nodup ∧ x.arrived.Nodup ∧ ∀ r ∈ x.arrived, r ∈ x.members

theorem Barrier.Sound.arrivalsListed {x : Barrier} (h : x.Sound) : x.ArrivalsListed := by
  obtain ⟨hmembers, -, harrived, hsubset, -⟩ := h
  exact ⟨hmembers, harrived, hsubset⟩

/-- R100, R104: those to whom a delivery in member order goes are the arrivals. -/
theorem Barrier.ArrivalsListed.receivers {x : Barrier} (h : x.ArrivalsListed) (p : Port) :
    ((x.members.filter fun r => x.arrived.contains r).filter fun r => r.port == p).length = x.owed p := by
  obtain ⟨hmembers, harrived, hsubset⟩ := h
  have hperm : (x.members.filter fun r => x.arrived.contains r).Perm x.arrived :=
    (List.perm_ext_iff_of_nodup (hmembers.filter _) harrived).2 fun r => by
      rw [List.mem_filter, List.contains_iff_mem]
      exact ⟨fun hr => hr.2, fun hr => ⟨hsubset r hr, hr⟩⟩
  rw [← List.countP_eq_length_filter, hperm.countP_eq]
  rfl

/-- The arrivals of barrier `b` receive an entry each, and the arrived set is empty then. -/
theorem InboxRoom.of_delivered {s t : State} (h : InboxRoom s) {b : BarrierIndex} {x : Barrier} {body : EntryBody}
    (hlisted : (s.barrier b).ArrivalsListed) (hlock : ∀ i, t.lock i = s.lock i) (honly : OnlyBarrier b x s t)
    (hempty : x.arrived = [])
    (hdelivered : DeliveredTo body ((s.barrier b).members.filter fun r => (s.barrier b).arrived.contains r) s t) :
    InboxRoom t := by
  refine h.of_barrier hlock honly fun q => ?_
  have hreceivers := hlisted.receivers q
  have hle := h.barrier_owed_le b q
  have hroom := h.room q
  have hnone : x.owed q = 0 := by rw [Barrier.owed, hempty]; rfl
  rw [hdelivered q, hnone]
  dsimp only
  rw [hreceivers]
  refine ⟨by omega, ?_⟩
  rw [List.length_append]
  split_ifs
  · rw [List.length_map, hreceivers]
    omega
  · simp only [List.length_nil]
    omega

theorem InboxRoom.openBarrier {s : State} (h : InboxRoom s) {b : BarrierIndex} (hlisted : (s.barrier b).ArrivalsListed) :
    InboxRoom (s.openBarrier b) := by
  have hopened := OpenedFrom.of_openBarrier s b (s.barrier b)
  rw [State.setBarrier_self] at hopened
  exact h.of_delivered hlisted (s.openBarrier_lock b) hopened.1 rfl hopened.2

theorem InboxRoom.breakRound {s : State} (h : InboxRoom s) {b : BarrierIndex}
    (hlisted : (s.barrier b).ArrivalsListed) (c : Port) :
    InboxRoom (s.breakRound b c) := by
  obtain ⟨honly, hdelivered⟩ := BrokenFrom.of_breakRound s b c
  exact h.of_delivered hlisted (s.breakRound_lock b c) honly rfl hdelivered

/-- Barrier `b` is rewritten and owes what it owed. -/
theorem InboxRoom.setBarrier {s : State} (h : InboxRoom s) {b : BarrierIndex} {x : Barrier}
    (howed : ∀ q, x.owed q = (s.barrier b).owed q) : InboxRoom (s.setBarrier b x) :=
  h.of_barrier (fun _ => rfl) (.of_setBarrier s b x) fun q => ⟨congrArg _ (howed q).symm, h.room q⟩

theorem InboxRoom.barrierMove {s t : State} (h : InboxRoom s) (hbarriers : BarriersSound s) {r : Requester}
    {b : BarrierIndex}
    {k : Command} (hmove : BarrierMove s r b k t) : InboxRoom t := by
  have hlisted := (hbarriers b).arrivalsListed
  have hroom := h.room r.port
  have hle := h.barrier_owed_le b r.port
  cases hmove with
  | join | leave | breakIdle | rearm => exact h.setBarrier fun _ => rfl
  | leaveOpens hmember hnot =>
    have hleft : InboxRoom (s.setBarrier b { s.barrier b with members := (s.barrier b).members.erase r }) :=
      h.setBarrier fun _ => rfl
    refine hleft.openBarrier ?_
    rw [State.setBarrier_barrier_self]
    obtain ⟨hmembers, harrived, hsubset⟩ := hlisted
    refine ⟨hmembers.erase r, harrived, fun q hq => (List.mem_erase_of_ne ?_).2 (hsubset q hq)⟩
    rintro rfl
    exact hnot hq
  | arrive hmember hbroken hnot hincomplete hfull =>
    refine h.of_barrier (b := b) (x := { s.barrier b with arrived := (s.barrier b).arrived ++ [r], state := .gathering })
      (fun _ => rfl) (.of_barriers_eq rfl) fun q => ?_
    have hinbox : OnlyInbox r.port { s.inbox r.port with reserved := (s.inbox r.port).reserved + 1 } s _ :=
      OnlyInbox.of_inboxes_eq (t := (s.setBarrier b
        { s.barrier b with arrived := (s.barrier b).arrived ++ [r], state := .gathering }).reserve r.port 1) rfl
    have howed : Barrier.owed { s.barrier b with arrived := (s.barrier b).arrived ++ [r], state := .gathering } q =
        (s.barrier b).owed q + if r.port = q then 1 else 0 := by
      simp [Barrier.owed, List.countP_append, List.countP_singleton]
    rw [howed]
    by_cases hq : q = r.port
    · subst hq
      rw [hinbox.1, if_pos rfl]
      dsimp only
      omega
    · rw [hinbox.2 q hq, if_neg (Ne.symm hq)]
      exact ⟨rfl, h.room q⟩
  | arriveOpens => exact h.openBarrier hlisted
  | withdraw harrived =>
    refine h.of_barrier (b := b)
      (x := { s.barrier b with
        arrived := (s.barrier b).arrived.erase r
        state := if (s.barrier b).arrived.erase r = [] then .idle else .gathering })
      (fun _ => rfl) (.of_barriers_eq rfl) fun q => ?_
    have hinbox := State.dropReservations_inbox (s.setBarrier b
      { s.barrier b with
        arrived := (s.barrier b).arrived.erase r
        state := if (s.barrier b).arrived.erase r = [] then .idle else .gathering }) r.port 1
    have howed : (s.barrier b).owed q =
        ((s.barrier b).arrived.erase r).countP (fun m => m.port == q) + if r.port = q then 1 else 0 := by
      rw [Barrier.owed, (List.perm_cons_erase harrived).countP_eq, List.countP_cons]
      simp
    change _ + (s.barrier b).owed q = _ + ((s.barrier b).arrived.erase r).countP (fun m => m.port == q) ∧ _
    by_cases hq : q = r.port
    · subst hq
      rw [if_pos rfl] at howed
      rw [hinbox.1]
      dsimp only [State.setBarrier_inbox]
      omega
    · rw [if_neg (Ne.symm hq)] at howed
      rw [hinbox.2 q hq]
      dsimp only [State.setBarrier_inbox]
      exact ⟨by omega, h.room q⟩
  | breakRound => exact h.breakRound hlisted r.port

/-- R108: the arrivals of the swept port leave with their reservations. -/
theorem InboxRoom.dropArrivals {s : State} (h : InboxRoom s) (p : Port) (b : BarrierIndex) :
    InboxRoom ((s.setBarrier b ((s.barrier b).without p)).dropReservations p
      ((s.barrier b).arrived.filter fun r => r.port == p).length) := by
  have hinbox := State.dropReservations_inbox (s.setBarrier b ((s.barrier b).without p)) p
    ((s.barrier b).arrived.filter fun r => r.port == p).length
  refine h.of_barrier (b := b) (x := (s.barrier b).without p) (fun _ => rfl) (.of_barriers_eq rfl) fun q => ?_
  have hroom := h.room q
  have hle := h.barrier_owed_le b q
  have hwithout : ((s.barrier b).without p).owed q = if q = p then 0 else (s.barrier b).owed q := by
    rw [Barrier.owed, Barrier.without, List.countP_filter]
    split_ifs with hq
    · rw [List.countP_eq_zero]
      simp [hq]
    · refine List.countP_congr fun r _ => ?_
      simp only [Bool.and_eq_true, beq_iff_eq, bne_iff_ne]
      exact ⟨fun hr => hr.1, fun hr => ⟨hr, fun hp => hq (hr.symm.trans hp)⟩⟩
  rw [hwithout]
  by_cases hq : q = p
  · subst hq
    have hcount : ((s.barrier b).arrived.filter fun r => r.port == q).length = (s.barrier b).owed q :=
      List.countP_eq_length_filter.symm
    rw [hinbox.1, if_pos rfl, hcount]
    dsimp only [State.setBarrier_inbox]
    omega
  · rw [hinbox.2 q hq, if_neg hq]
    exact ⟨rfl, hroom⟩

theorem InboxRoom.visitBarrier {s : State} (h : InboxRoom s) (hbarriers : BarriersSound s) (p : Port) (b : BarrierIndex) :
    InboxRoom (s.visitBarrier p b) := by
  rw [State.visitBarrier_eq]
  by_cases hnone : ∀ r ∈ (s.barrier b).members, r.port ≠ p
  · rw [if_pos hnone]
    exact h
  rw [if_neg hnone]
  by_cases hempty : (s.barrier b).arrived = []
  · rw [if_pos hempty]
    refine h.setBarrier fun q => ?_
    rw [Barrier.owed, Barrier.owed, hempty]
    simp [Barrier.without, hempty]
  · rw [if_neg hempty]
    refine (h.dropArrivals p b).breakRound ?_ p
    obtain ⟨hmembers, harrived, hsubset⟩ := (hbarriers b).arrivalsListed
    rw [State.dropReservations_barrier, State.setBarrier_barrier_self]
    refine ⟨hmembers.filter _, harrived.filter _, fun r hr => ?_⟩
    obtain ⟨hin, hport⟩ := List.mem_filter.1 hr
    exact List.mem_filter.2 ⟨hsubset r hin, hport⟩

/-! ### Every block -/

theorem InboxRoom.depart {s : State} (h : InboxRoom s) (p : Port) (c : Cause) : InboxRoom (s.depart p c) := by
  refine h.of_same (s.depart_lock p c) (s.depart_barrier p c) (fun q => ?_) fun q => ?_
  all_goals
    rw [State.depart_inbox]
    split_ifs with hq
  · rw [hq]
  · rfl
  · exact Nat.zero_le _
  · exact le_rfl

theorem InboxRoom.popInbox {s : State} (h : InboxRoom s) (p : Port) : InboxRoom (s.popInbox p) := by
  refine h.of_same (fun _ => rfl) (fun _ => rfl) (fun q => ?_) fun q => ?_
  all_goals
    rw [State.popInbox, State.setInbox_inbox]
    split_ifs with hq
  · rw [hq]
  · rfl
  · rw [hq]
    simp
  · exact le_rfl

theorem InboxRoom.blockStep {s t : State} (h : InboxRoom s) (htable : LockTableSound s) (hbarriers : BarriersSound s)
    (hmatch : DeadlinesMatch s) (hstep : BlockStep s t) : InboxRoom t := by
  cases hstep with
  | lock k p t hmove => exact h.lockMove htable hmatch hmove
  | barrier r b k t hlive hmove => exact h.barrierMove hbarriers hmove
  | depart p c => exact h.depart p c
  | portReset p =>
    unfold State.resetPort
    split_ifs
    · exact h.depart p _
    · exact h
  | interval p v => rw [State.writeKalive_frame]; exact h
  | cap p v => rw [State.writeWcap_frame]; exact h
  | renewKeepalive p => rw [State.renewKeepalive_eq]; exact h
  | deliver p e hlive hroom =>
    refine h.of_lock (i := 0) (fun _ _ => rfl) (fun _ => rfl) (.of_deliver s p e) (fun _ _ => rfl) rfl ?_
    rw [List.length_append, List.length_singleton]
    dsimp only
    omega
  | pop p => exact h.popInbox p
  | lockVisit p i =>
    have hsound := ((LockEntry.sound_iff _ _).1 (htable.entry i)).2
    have hvisited : InboxRoom (s.visitLock p i) := h.lockSteps hsound hmatch (.visitLock s p i)
    exact hvisited
  | barrierVisit p b => exact h.visitBarrier hbarriers p b
  | finalStep p => rw [State.nextSweep_frame]; exact h
  | deviceReset => exact InboxRoom.reset
  | _ => exact h

theorem InboxRoom.hostOnly {u t : State} (h : InboxRoom u) (hhost : HostOnly u t) : InboxRoom t := by
  rw [hhost]
  exact h

end Sys2Proof.Machine
end

section
/-! PROOFS. Every step keeps the reservation accounts and the bound of 16 entries. -/

open Sys2Proof Sys2Proof.Machine

/-- Settles O13: a port's count changes by what the event's lock or barrier owes it, and an entry is added in the place of a
reservation or where there is room. -/
theorem inboxRoomIsKept : Obligations.InboxRoomIsKept := by
  intro s t hroom htable hbarriers hmatch hstep
  obtain ⟨rest, u, hblock, hhost⟩ := BlockStep.of_step hstep
  exact (InboxRoom.blockStep (s := { s with pending := rest }) hroom htable hbarriers hmatch hblock).hostOnly hhost
end
